-- ==== Sys2Proof/Word.lean ====
section
/-! DEFINITION. The widths of spec/00_scope.md R8: a command word, a 16-bit register, an 8-bit register. -/

namespace Sys2Proof

/-- A command word, 32 bits (R8, R70). -/
abbrev Word := BitVec 32

/-- An operand register, HQ or CUR_HUE, 16 bits (R8). -/
abbrev Half := BitVec 16

/-- A channel, LEVEL, TICK or FRAMES_LEFT, 8 bits (R8). -/
abbrev Byte := BitVec 8

end Sys2Proof
end

