-- ==== Sys2Proof/Syntax.lean ====
section
/-! DEFINITION. The five commands of spec/30_encoding.md R73, one constructor per row of spec/opcode_table.json. -/

namespace Sys2Proof

/-- A command. CONV, INTP, FRAME and RUN take all their operands from registers the command itself names (R72). -/
inductive Instr where
  /-- LDI rd, imm: `rd` is the 4-bit field of R71, `imm` the 16-bit immediate. -/
  | ldi (rd : BitVec 4) (imm : Half)
  | conv
  | intp
  | frame
  | run
  deriving DecidableEq, Repr

end Sys2Proof
end

