-- ==== Sys2Proof/WellFormed.lean ====
section
/-! DEFINITION. Which terms of `Instr` are commands. One check exists: LDI names a register, `rd ≤ 6`
(spec/30_encoding.md R74, R78). -/

namespace Sys2Proof

/-- `rd ≤ 6` for LDI (R73, R78); the other commands have no field. -/
def Instr.WellFormed : Instr → Bool
  | .ldi rd _ => decide (rd.toNat ≤ 6)
  | .conv => true
  | .intp => true
  | .frame => true
  | .run => true

end Sys2Proof
end

