-- ==== Sys2Proof/Decode.lean ====
section
/-! DEFINITION. Decoding and encoding of command words: spec/30_encoding.md R71 (the format), R73 (the opcode map),
R74 (decode), R78 (illegal words). A word arrives whole on the port (R52), so there is no byte order here. -/

namespace Sys2Proof

/-- `op`, bits 31:28 (R71). -/
def opField (w : Word) : BitVec 4 := w.extractLsb' 28 4

/-- `rd`, bits 27:24 (R71). -/
def rdField (w : Word) : BitVec 4 := w.extractLsb' 24 4

/-- `zero`, bits 23:16 (R71). -/
def zeroField (w : Word) : Byte := w.extractLsb' 16 8

/-- `imm`, bits 15:0 (R71). -/
def immField (w : Word) : Half := w.extractLsb' 0 16

/-- Why a word is Illegal. The spec has one verdict, Illegal; the names are the four classes of R78
(notes/assumptions/20.md). -/
inductive Reject where
  /-- `zero` ≠ 0 -/
  | zeroFieldSet
  /-- LDI with `rd` ≥ 7 -/
  | noSuchRegister
  /-- CONV, INTP, FRAME or RUN with `rd` ≠ 0 or `imm` ≠ 0 -/
  | strayOperand
  /-- `op` = 0x0 or 0x6 to 0xF -/
  | noSuchOp
  deriving DecidableEq, Repr

/-- A command without fields, legal only with `rd` = 0 and `imm` = 0 (R74). -/
def decodePlain (w : Word) (i : Instr) : Except Reject Instr :=
  if rdField w = 0 ∧ immField w = 0 then .ok i else .error .strayOperand

/-- R74: total on 32-bit words; an error is the spec's Illegal. -/
def decode (w : Word) : Except Reject Instr :=
  if zeroField w ≠ 0 then .error .zeroFieldSet
  else match (opField w).toNat with
    | 1 => if (rdField w).toNat ≤ 6 then .ok (.ldi (rdField w) (immField w)) else .error .noSuchRegister
    | 2 => decodePlain w .conv
    | 3 => decodePlain w .intp
    | 4 => decodePlain w .frame
    | 5 => decodePlain w .run
    | _ => .error .noSuchOp

/-- The `op` value of a command (R73). -/
def opcode : Instr → BitVec 4
  | .ldi _ _ => 0x1
  | .conv => 0x2
  | .intp => 0x3
  | .frame => 0x4
  | .run => 0x5

/-- The word of a command: `op rd zero imm` from bit 31 down (R71, R73). -/
def encode : Instr → Word
  | .ldi rd imm => opcode (.ldi rd imm) ++ rd ++ 0#8 ++ imm
  | .conv => opcode .conv ++ 0#4 ++ 0#8 ++ 0#16
  | .intp => opcode .intp ++ 0#4 ++ 0#8 ++ 0#16
  | .frame => opcode .frame ++ 0#4 ++ 0#8 ++ 0#16
  | .run => opcode .run ++ 0#4 ++ 0#8 ++ 0#16

/-- The command read from the low `nbits` bits of `w`, the bits above being 0. The opcode table numbers a command's
bits as R9 does, bit 0 the least significant (notes/assumptions/14.md). -/
def tableWord (nbits w : Nat) : Word := BitVec.ofNat 32 (w % 2 ^ nbits)

/-- What the decoder reads from an opcode-table word. -/
def decodeTableWord (nbits w : Nat) : Option Instr :=
  match decode (tableWord nbits w) with
  | .ok i => some i
  | .error _ => none

end Sys2Proof
end

