-- ==== Sys2Proof/Config.lean ====
section
/-! DEFINITION. The parameters of spec/00_scope.md R7. The spec fixes their constraints and no value, so the build's
values are opaque constants (notes/assumptions/1.md). SECTOR_LUT, the one parameter with a decided value, is
`Sys2Proof.Machine.sectorLut` in Machine/Convert.lean (notes/assumptions/10.md). -/

namespace Sys2Proof

/-- TRIG_EDGE (R7, R199): which transition of the sensed input is a trigger event. -/
inductive TrigEdge where
  | rising
  | falling
  | both
  deriving DecidableEq, Repr, Inhabited

/-- The parameters of R7 that have no value in the spec. "The model takes each as an argument": every step that
reads one takes a `Params`. -/
structure Params where
  /-- MIN_LEVEL -/
  minLevel : Nat
  /-- MAX_LEVEL -/
  maxLevel : Nat
  /-- ITE_STEP, the level's increment at the top of a sweep -/
  iteStep : Nat
  /-- HUE_STEP, the hue's increment in a sweep -/
  hueStep : Nat
  /-- SEQ_SAT, the saturation SEQ_CONV passes to the converter; its width is R7's bound 65535 -/
  seqSat : Half
  /-- SEQ_VAL, the brightness SEQ_CONV passes to the converter at a level; its width is R7's bound 65535 -/
  seqVal : Byte → Half
  /-- TRIG_EDGE -/
  trigEdge : TrigEdge
  /-- SUBTICK_DELAY; no rule reads it (R145) -/
  subtickDelay : Nat

/-- The constraints of R7 that the field types do not already state. -/
structure Params.Valid (p : Params) : Prop where
  minLevel_pos : 1 ≤ p.minLevel
  minLevel_le_maxLevel : p.minLevel ≤ p.maxLevel
  maxLevel_le : p.maxLevel ≤ 255
  iteStep_pos : 1 ≤ p.iteStep
  iteStep_le : p.iteStep ≤ 255
  hueStep_pos : 1 ≤ p.hueStep
  hueStep_lt : p.hueStep < 1536
  subtickDelay_pos : 1 ≤ p.subtickDelay

/-- MIN_LEVEL - 1, open (R7, 93_implementation_defined.md U8). -/
opaque Config.minLevelLess1 : Fin 255

/-- MAX_LEVEL - MIN_LEVEL before it is brought into range, open (R7, U8). -/
opaque Config.levelSpan : Nat

/-- ITE_STEP - 1, open (R7, U8). -/
opaque Config.iteStepLess1 : Fin 255

/-- HUE_STEP - 1, open (R7, U8). -/
opaque Config.hueStepLess1 : Fin 1535

/-- SEQ_SAT, open (R7, U8). -/
opaque Config.seqSat : Half

/-- SEQ_VAL, open (R7, U8). -/
opaque Config.seqVal : Byte → Half

/-- TRIG_EDGE, open (R7, U7). -/
opaque Config.trigEdge : TrigEdge

/-- SUBTICK_DELAY - 1, open (R7, U4). -/
opaque Config.subtickDelayLess1 : Nat

/-- The build's parameters: any values within the constraints of R7, and nothing more is known of them. -/
def Config.params : Params where
  minLevel := Config.minLevelLess1.val + 1
  maxLevel := Config.minLevelLess1.val + 1 + Config.levelSpan % (255 - Config.minLevelLess1.val)
  iteStep := Config.iteStepLess1.val + 1
  hueStep := Config.hueStepLess1.val + 1
  seqSat := Config.seqSat
  seqVal := Config.seqVal
  trigEdge := Config.trigEdge
  subtickDelay := Config.subtickDelayLess1 + 1

end Sys2Proof
end

