-- ==== Sys2Proof/Machine/State.lean ====
section
/-! DEFINITION. The state of the core: every register of spec/10_state.md, and the inputs of its environment as plain
data. There is no memory (spec/20_memory.md R50). -/

namespace Sys2Proof.Machine

/-- POS, the control-flow position (R29). The values 5 and 6 of the 3-bit register are "never held" and have no
constructor (notes/assumptions/8.md). -/
inductive Pos where
  | idle
  | frame
  | seqConv
  | seqFrame
  | seqAdv
  | halt
  deriving DecidableEq, Repr

/-- CAUSE (R32, R191). The codes 5 to 7 are "never written" and have no constructor (notes/assumptions/8.md). -/
inductive Cause where
  | none
  | illegalCmd
  | divZero
  | hueRange
  | stepRange
  deriving DecidableEq, Repr

/-- Which agent of R20 takes a step: the total order of R56 is the order of these in `State.moves`
(notes/assumptions/2.md). -/
inductive Move where
  /-- the command port or the frame engine and sequencer, whichever POS enables -/
  | core
  /-- the sensed input line takes a level; a selected edge is a trigger event (R199) -/
  | prox (level : Bool)
  /-- the environment asserts `rst` (R230) -/
  | rst
  deriving DecidableEq, Repr

/-- The core and its pending inputs. Bool fields are 1-bit: `true` is 1. -/
structure State where
  /-- x0 to x6: HUE, SAT, VAL, ISTART, ISTOP, ITOTAL, ISTEP (R21) -/
  x : Vector Half 7
  /-- R (R22) -/
  r : Byte
  /-- G (R22) -/
  g : Byte
  /-- B (R22) -/
  b : Byte
  /-- HQ (R23) -/
  hq : Half
  /-- CUR_HUE (R26) -/
  curHue : Half
  /-- LEVEL (R27) -/
  level : Byte
  /-- POS (R29) -/
  pos : Pos
  /-- TICK (R30) -/
  tick : Byte
  /-- FRAMES_LEFT (R31) -/
  framesLeft : Byte
  /-- CAUSE (R32) -/
  cause : Cause
  /-- LINE_R, `true` = active (R34) -/
  lineR : Bool
  /-- LINE_G (R34) -/
  lineG : Bool
  /-- LINE_B (R34) -/
  lineB : Bool
  /-- input: the level of the port `prox` (R35, R199; notes/assumptions/4.md) -/
  prox : Bool
  /-- input: the command words the host presents, in issue order. The first is on `cmd` with `cmd_valid` = 1; with none
  left `cmd_valid` = 0 (R35, R70; notes/assumptions/3.md) -/
  host : List Word
  /-- input: who takes the next steps; with none listed the core does (R56; notes/assumptions/2.md) -/
  moves : List Move
  deriving DecidableEq, Repr

/-- Where the step has no value to give. The spec's own `raise Fault(c)` is NOT one of these: it is a next state with
CAUSE and POS written (R192). Both occur only in states the spec says are never held. -/
inductive Fault where
  /-- raised by SEQ_CONV at LEVEL = 0, where R163's MAX_LEVEL / l divides by zero (R163: "never by zero"). Safe
  (notes/assumptions/6.md). -/
  | levelZero
  /-- raised by the last sub-tick of a frame at FRAMES_LEFT = 0, where R142's FRAMES_LEFT - 1 is below 0. Safe
  (notes/assumptions/7.md). -/
  | noFrameLeft
  deriving DecidableEq, Repr

/-- Why the model has no meaning for something. -/
inductive Refusal where
  /-- raised by exec's arm of an instruction without a meaning (there is none in this package). Safe. -/
  | notModelled (mnemonic : String)
  deriving DecidableEq, Repr

/-- The state after hardware reset under parameters `p` (R38), with no input pending. -/
def State.resetWith (p : Params) : State where
  x := Vector.replicate 7 0
  r := 0
  g := 0
  b := 0
  hq := 0
  curHue := 0
  level := BitVec.ofNat 8 p.minLevel
  pos := .idle
  tick := 0
  framesLeft := 0
  cause := .none
  lineR := false
  lineG := false
  lineB := false
  prox := false
  host := []
  moves := []

/-- The state after hardware reset (R38, R231). -/
def State.reset : State := State.resetWith Config.params

end Sys2Proof.Machine
end

