-- ==== Sys2Proof/Machine/Ops.lean ====
section
/-! DEFINITION. The named operations on the registers. Each writes what its rule says and nothing else. -/

namespace Sys2Proof.Machine

/-- The outcome of a step of this core. -/
abbrev Result := Host.Outcome State Fault Refusal

/-! ### Registers -/

/-- Read operand register `x[i]` (R9, R21). -/
def State.readX (s : State) (i : Fin 7) : Half := s.x[i]

/-- `x[i] <- v` (R9, R90). -/
def State.writeX (s : State) (i : Fin 7) (v : Half) : State := { s with x := s.x.set i v }

/-- `R <- r ; G <- g ; B <- b`, all three in one step (R22). -/
def State.writeColour (s : State) (r g b : Byte) : State := { s with r := r, g := g, b := b }

/-- `HQ <- v` (R23). -/
def State.writeHq (s : State) (v : Half) : State := { s with hq := v }

/-- CUR_HUE and LEVEL, written as a pair (R57). -/
def State.writeAnimation (s : State) (hue : Half) (level : Byte) : State :=
  { s with curHue := hue, level := level }

/-- `POS <- p` (R9). -/
def State.setPos (s : State) (p : Pos) : State := { s with pos := p }

/-- `TICK <- v` (R142). -/
def State.setTick (s : State) (v : Byte) : State := { s with tick := v }

/-- `TICK <- 0 ; FRAMES_LEFT <- n ; POS <- p`: `n` frames are to be rendered (R141, R163). -/
def State.startFrames (s : State) (n : Byte) (p : Pos) : State :=
  { s with tick := 0, framesLeft := n, pos := p }

/-- LINE_R, LINE_G and LINE_B, written together (R34, R61). -/
def State.driveLines (s : State) (lr lg lb : Bool) : State :=
  { s with lineR := lr, lineG := lg, lineB := lb }

/-! ### The input side -/

/-- The agent whose turn it is (R56; notes/assumptions/2.md). -/
def State.nextMove (s : State) : Move := s.moves.headD .core

/-- The turn is taken. -/
def State.popMove (s : State) : State := { s with moves := s.moves.tail }

/-- The sensed input line is at level `v` (R35). -/
def State.setProx (s : State) (v : Bool) : State := { s with prox := v }

/-- The host's pending words become `ws`. -/
def State.setHost (s : State) (ws : List Word) : State := { s with host := ws }

/-! ### Events: the fault, the trigger, hardware reset -/

/-- `raise Fault(c)`: the whole fault mechanism (R192). Nothing is saved, because nothing resumes; the only way back is
`hardwareReset` (R193). -/
def raiseFault (c : Cause) (s : State) : State := { s with cause := c, pos := .halt }

/-- The trigger step (R200): CUR_HUE <- 0, LEVEL <- MIN_LEVEL, nothing else. It saves nothing and returns by itself
(R201). -/
def trigger (p : Params) (s : State) : State := s.writeAnimation 0 (BitVec.ofNat 8 p.minLevel)

/-- An edge of polarity TRIG_EDGE between two levels of `prox` (R199). -/
def isTriggerEdge (e : TrigEdge) (old new : Bool) : Bool :=
  match e with
  | .rising => !old && new
  | .falling => old && !new
  | .both => old != new

/-- The sensed line takes level `v`: a selected edge is a trigger event, applied in this step (R199, R200). Any other
level change, or none, changes only the level (notes/assumptions/16.md). -/
def senseProx (p : Params) (v : Bool) (s : State) : State :=
  if isTriggerEdge p.trigEdge s.prox v then (trigger p s).setProx v else s.setProx v

/-- Hardware reset (R230): every register to its reset value. The inputs still to come are the environment's and stay
(notes/assumptions/17.md). -/
def hardwareReset (p : Params) (s : State) : State where
  x := Vector.replicate 7 0
  r := 0
  g := 0
  b := 0
  hq := 0
  curHue := 0
  level := BitVec.ofNat 8 p.minLevel
  pos := .idle
  tick := 0
  framesLeft := 0
  cause := .none
  lineR := false
  lineG := false
  lineB := false
  prox := s.prox
  host := s.host
  moves := s.moves

end Sys2Proof.Machine
end

