-- ==== Sys2Proof/Machine/Operands.lean ====
section
/-! DEFINITION. The operands: the names and indexes of the operand registers (R21), how LDI's field names one (R51), and
what CONV and INTP do with the values when they read them (R101, R102, R121). -/

namespace Sys2Proof.Machine

/-- The operand registers by name (R21). -/
inductive OpReg where
  | hue
  | sat
  | val
  | istart
  | istop
  | itotal
  | istep
  deriving DecidableEq, Repr

/-- The index of a named operand register (R21). -/
def OpReg.index : OpReg → Fin 7
  | .hue => 0
  | .sat => 1
  | .val => 2
  | .istart => 3
  | .istop => 4
  | .itotal => 5
  | .istep => 6

/-- Read an operand register by name, as the unsigned integer it holds (R9, R21). -/
def State.operand (s : State) (n : OpReg) : Nat := (s.readX n.index).toNat

/-- The operand register that LDI's `rd` names: indexes 0 to 6; 7 to 15 name none (R21, R51). -/
def operandIndex (rd : BitVec 4) : Option (Fin 7) :=
  if h : rd.toNat < 7 then some ⟨rd.toNat, h⟩ else none

/-- HUE_MAX (R6). -/
def hueMax : Nat := 1536

/-- HALF_TURN (R6). -/
def halfTurn : Nat := 768

/-- SECTOR_WIDTH (R6). -/
def sectorWidth : Nat := 256

/-- SECTOR_COUNT (R6). -/
def sectorCount : Nat := 6

/-- PCT_MAX (R6). -/
def pctMax : Nat := 100

/-- CH_MAX (R6). -/
def chMax : Nat := 255

/-- SUBTICKS (R6). -/
def subticks : Nat := 255

/-- Hue reduction: the hue is "taken modulo HUE_MAX before use" (R101). -/
def reduceHue (hue : Nat) : Nat := hue % hueMax

/-- Clamping of a percentage from above (R102). -/
def clampPct (v : Nat) : Nat := min v pctMax

/-- The first precondition of the interpolator that its arguments break, in the order of R121. -/
def interpolateViolation (start stop total step : Nat) : Option Cause :=
  if total = 0 then some .divZero
  else if start ≥ hueMax ∨ stop ≥ hueMax then some .hueRange
  else if step > total then some .stepRange
  else none

end Sys2Proof.Machine
end

