-- ==== Sys2Proof/Machine/Flags.lean ====
section
/-! DEFINITION. The core has no arithmetic flags (R33). The only status bits are the read-only view STATUS, computed from
POS and CAUSE; with it, the other output ports of R35. Nothing here is state and reading it changes nothing (R54). -/

namespace Sys2Proof.Machine

/-- The code of a position in the 3-bit register POS (R29). -/
def Pos.code : Pos → BitVec 3
  | .idle => 0
  | .frame => 1
  | .seqConv => 2
  | .seqFrame => 3
  | .seqAdv => 4
  | .halt => 7

/-- The code of a cause in the 3-bit register CAUSE (R191). -/
def Cause.code : Cause → BitVec 3
  | .none => 0
  | .illegalCmd => 1
  | .divZero => 2
  | .hueRange => 3
  | .stepRange => 4

/-- POS is one of the sequencer's positions: STATUS.RUN (R33). -/
def Pos.running : Pos → Bool
  | .seqConv => true
  | .seqFrame => true
  | .seqAdv => true
  | .idle => false
  | .frame => false
  | .halt => false

/-- A frame or the sequencer is in progress: STATUS.BUSY (R33). -/
def Pos.busy : Pos → Bool
  | .frame => true
  | .seqConv => true
  | .seqFrame => true
  | .seqAdv => true
  | .idle => false
  | .halt => false

/-- STATUS: bits 7:6 zero, 5:3 CAUSE, 2 FAULT, 1 RUN, 0 BUSY (R33). -/
def State.status (s : State) : Byte :=
  0#2 ++ s.cause.code ++ BitVec.ofBool (s.pos == .halt) ++ BitVec.ofBool s.pos.running ++ BitVec.ofBool s.pos.busy

/-- `cmd_ready`: 1 exactly when POS = IDLE (R35, R70). -/
def State.cmdReady (s : State) : Bool := s.pos == .idle

/-- The output ports of R35. -/
structure OutPorts where
  cmdReady : Bool
  rgbR : Byte
  rgbG : Byte
  rgbB : Byte
  hq : Half
  curHue : Half
  level : Byte
  status : Byte
  lineR : Bool
  lineG : Bool
  lineB : Bool
  deriving DecidableEq, Repr

/-- What an observer reads on the output ports (R35). -/
def State.outPorts (s : State) : OutPorts where
  cmdReady := s.cmdReady
  rgbR := s.r
  rgbG := s.g
  rgbB := s.b
  hq := s.hq
  curHue := s.curHue
  level := s.level
  status := s.status
  lineR := s.lineR
  lineG := s.lineG
  lineB := s.lineB

/-- The input ports `cmd` and `cmd_valid`: the word the host presents, if any (R35). -/
def State.cmdPort (s : State) : Option Word := s.host.head?

end Sys2Proof.Machine
end

