-- ==== Sys2Proof/Machine/Convert.lean ====
section
/-! DEFINITION. The colourspace converter and CONV (spec/41_convert.md). All arithmetic is on unbounded naturals with
truncating division, narrowed to 8 bits at the end (R111). -/

namespace Sys2Proof.Machine

/-- What a channel receives in a sector (R103, R104). -/
inductive Ramp where
  | fall
  | rise
  | zero
  deriving DecidableEq, Repr

/-- A value for each of the three channels. -/
structure Rgb (α : Type) where
  red : α
  green : α
  blue : α
  deriving DecidableEq, Repr

/-- Apply `f` to the three channels. -/
def Rgb.map {α β : Type} (f : α → β) (c : Rgb α) : Rgb β := ⟨f c.red, f c.green, f c.blue⟩

/-- SECTOR_LUT, the table of R104, one row per sector: the one constant to replace if another table is found
(R7, 93_implementation_defined.md U9; notes/assumptions/10.md). -/
def sectorLut : List (Rgb Ramp) :=
  [⟨.fall, .rise, .zero⟩,
   ⟨.zero, .fall, .rise⟩,
   ⟨.rise, .zero, .fall⟩,
   ⟨.fall, .rise, .zero⟩,
   ⟨.zero, .fall, .rise⟩,
   ⟨.rise, .zero, .fall⟩]

/-- The sector of a reduced hue, 0 to 5 (R101). -/
def sector (h : Nat) : Nat := h / sectorWidth % sectorCount

/-- The position in the sector, 0 to 255 (R101). -/
def sectorPos (h : Nat) : Nat := h % sectorWidth

/-- The ramp values at a position (R103). -/
def Ramp.value (pos : Nat) : Ramp → Nat
  | .fall => chMax - pos
  | .rise => pos
  | .zero => 0

/-- The table's row for a sector; the table has a row for each of the six. -/
def sectorRow (n : Nat) : Rgb Ramp := sectorLut.getD n ⟨.zero, .zero, .zero⟩

/-- The raw triple of a reduced hue: the sector's row with the ramp values filled in (R105). -/
def rawColour (h : Nat) : Rgb Nat := (sectorRow (sector h)).map (Ramp.value (sectorPos h))

/-- Saturation: `raw` moved toward 255 by (100 - s)/100 of the distance, product first (R106). -/
def blend (s raw : Nat) : Nat := raw + (chMax - raw) * (pctMax - s) / pctMax

/-- Brightness: `w` scaled by v/100, product first (R107). -/
def scale (v w : Nat) : Nat := w * v / pctMax

/-- `convert(hue, sat, val)` (R100, R108). -/
def convert (hue sat val : Nat) : Rgb Nat :=
  (rawColour (reduceHue hue)).map fun raw => scale (clampPct val) (blend (clampPct sat) raw)

/-- R, G, B take the colour of the three arguments (R109, R163); every channel fits 8 bits (R107). -/
def State.showColour (s : State) (hue sat val : Nat) : State :=
  let c := (convert hue sat val).map (BitVec.ofNat 8)
  s.writeColour c.red c.green c.blue

/-- CONV (R109): R, G, B <- convert(HUE, SAT, VAL); POS and every other register unchanged. -/
def execConv (s : State) : Result :=
  .next (s.showColour (s.operand .hue) (s.operand .sat) (s.operand .val))

end Sys2Proof.Machine
end

