-- ==== Sys2Proof/Machine/Interpolate.lean ====
section
/-! DEFINITION. The hue interpolator and INTP (spec/42_interpolate.md). -/

namespace Sys2Proof.Machine

/-- The direction of travel on the hue circle (R123). -/
inductive Direction where
  /-- toward larger hue values -/
  | forward
  /-- toward smaller hue values -/
  | backward
  deriving DecidableEq, Repr

/-- `lin`, the plain difference (R122). -/
def linDistance (start stop : Nat) : Nat := ((stop : Int) - (start : Int)).natAbs

/-- `arc`, the shorter of the two ways round (R122). -/
def arcDistance (start stop : Nat) : Nat :=
  if linDistance start stop ≤ halfTurn then linDistance start stop else hueMax - linDistance start stop

/-- The document's decision table (R123): rows `start ≤ stop`, columns `lin ≤ 768`. -/
def direction (start stop : Nat) : Direction :=
  match decide (start ≤ stop), decide (linDistance start stop ≤ halfTurn) with
  | true, true => .forward
  | true, false => .backward
  | false, true => .backward
  | false, false => .forward

/-- `off`, the distance travelled, product first, truncated on the magnitude (R124). -/
def travelled (arc total step : Nat) : Nat := arc * step / total

/-- `t`, before normalisation; it may be negative (R124, R128). -/
def Direction.advance (d : Direction) (start off : Nat) : Int :=
  match d with
  | .forward => (start : Int) + off
  | .backward => (start : Int) - off

/-- Normalisation: HUE_MAX is added before the modulo (R124). -/
def normaliseHue (t : Int) : Nat := ((t + hueMax) % hueMax).toNat

/-- `interpolate(start, stop, n, k)` (R125). It has a meaning only within the contract of R120; INTP calls it on no
other arguments. -/
def interpolate (start stop total step : Nat) : Nat :=
  normaliseHue ((direction start stop).advance start (travelled (arcDistance start stop) total step))

/-- INTP (R126): the checks of R121, then HQ <- interpolate(ISTART, ISTOP, ITOTAL, ISTEP); POS and every other register
unchanged. -/
def execIntp (s : State) : Result :=
  match interpolateViolation (s.operand .istart) (s.operand .istop) (s.operand .itotal) (s.operand .istep) with
  | some c => .next (raiseFault c s)
  | none =>
    .next (s.writeHq (BitVec.ofNat 16
      (interpolate (s.operand .istart) (s.operand .istop) (s.operand .itotal) (s.operand .istep))))

end Sys2Proof.Machine
end

