-- ==== Sys2Proof/Machine/Load.lean ====
section
/-! DEFINITION. LDI, the operand load (spec/40_operands.md). -/

namespace Sys2Proof.Machine

/-- LDI rd, imm (R90): `x[rd] <- imm`, the value as given, POS unchanged. An `rd` that names no register is an illegal
command (R90 Faults, R78); the decoder already refuses its word (notes/assumptions/12.md). -/
def execLdi (rd : BitVec 4) (imm : Half) (s : State) : Result :=
  match operandIndex rd with
  | some i => .next (s.writeX i imm)
  | none => .next (raiseFault .illegalCmd s)

end Sys2Proof.Machine
end

