-- ==== Sys2Proof/Machine/Pwm.lean ====
section
/-! DEFINITION. The PWM modulator: FRAME and the sub-tick step (spec/43_pwm.md). -/

namespace Sys2Proof.Machine

/-- FRAME (R141): one frame of the colour in R, G, B is started; the lines are not written by this step. -/
def execFrame (s : State) : Result := .next (s.startFrames 1 .frame)

/-- A line is active while the counter is below the channel: strict, unsigned (R142). -/
def lineOn (tick channel : Byte) : Bool := decide (tick.toNat < channel.toNat)

/-- Where the engine goes when the last frame asked for is done (R142). -/
def afterFrames : Pos → Pos
  | .frame => .idle
  | .seqFrame => .seqAdv
  | .idle => .idle
  | .seqConv => .seqConv
  | .seqAdv => .seqAdv
  | .halt => .halt

/-- The counters at the last sub-tick of a frame (R142). FRAMES_LEFT = 0 is never held here and the step then has no
value to write (notes/assumptions/7.md). -/
def endFrame (s : State) : Result :=
  if s.framesLeft = 0 then .fault .noFrameLeft
  else .next (s.startFrames (s.framesLeft - 1) (if s.framesLeft = 1 then afterFrames s.pos else s.pos))

/-- The three comparisons of a sub-tick, written together (R142, R61). -/
def State.compareLines (s : State) : State :=
  s.driveLines (lineOn s.tick s.r) (lineOn s.tick s.g) (lineOn s.tick s.b)

/-- The sub-tick step (R142): the lines, then the counters. The counter runs from 0 to 254. -/
def subTick (s : State) : Result :=
  if s.tick.toNat < subticks - 1 then .next (s.compareLines.setTick (s.tick + 1))
  else endFrame s.compareLines

end Sys2Proof.Machine
end

