-- ==== Sys2Proof/Machine/Sequencer.lean ====
section
/-! DEFINITION. The sequencer: RUN, SEQ_CONV and SEQ_ADV (spec/44_sequencer.md). Its SEQ_FRAME steps are the sub-tick
step of Machine/Pwm.lean (R164). -/

namespace Sys2Proof.Machine

/-- RUN (R161): POS <- SEQ_CONV and nothing else. -/
def execRun (s : State) : Result := .next (s.setPos .seqConv)

/-- The inner repeat count MAX_LEVEL / l (R163). -/
def repeatCount (p : Params) (level : Nat) : Nat := p.maxLevel / level

/-- SEQ_CONV (R163): the colour and the repeat count of the current pair. At LEVEL = 0, never held, the repeat count has
no value (notes/assumptions/6.md). -/
def seqConv (p : Params) (s : State) : Result :=
  if s.level = 0 then .fault .levelZero
  else .next ((s.showColour s.curHue.toNat p.seqSat.toNat (p.seqVal s.level).toNat).startFrames
    (BitVec.ofNat 8 (repeatCount p s.level.toNat)) .seqFrame)

/-- The pair (CUR_HUE, LEVEL) after one hue step (R166): at the top of the sweep the hue is 0, not the remainder. -/
def advancePair (p : Params) (pair : Nat × Nat) : Nat × Nat :=
  if pair.1 + p.hueStep < hueMax then (pair.1 + p.hueStep, pair.2)
  else (0, min (pair.2 + p.iteStep) p.maxLevel)

/-- SEQ_ADV (R166): an atomic read-modify-write of the pair (R57, R59). -/
def seqAdv (p : Params) (s : State) : State :=
  let next := advancePair p (s.curHue.toNat, s.level.toNat)
  (s.writeAnimation (BitVec.ofNat 16 next.1) (BitVec.ofNat 8 next.2)).setPos .seqConv

end Sys2Proof.Machine
end

