-- ==== Sys2Proof/Machine/Turn.lean ====
section
/-! DEFINITION. One atomic step, by whichever agent's turn it is (R20, R56): the command port's acceptance (R70), the
step POS enables (R29), the trigger (R200), hardware reset (R230). -/

namespace Sys2Proof.Machine

/-- The command port at POS = IDLE (R70, R74, R78): the presented word is taken and decoded in this step (R60), and runs
or raises ILLEGAL_CMD. With no word presented the core waits (notes/assumptions/5.md). -/
def acceptCommand (s : State) : Result :=
  match s.host with
  | [] => .next s
  | w :: ws =>
    match decode w with
    | .ok i => exec i (s.setHost ws)
    | .error _ => .next (raiseFault .illegalCmd (s.setHost ws))

/-- The step that POS enables (R29). In HALT nothing is enabled (R193): the core waits (notes/assumptions/5.md). -/
def coreStep (p : Params) (s : State) : Result :=
  match s.pos with
  | .idle => acceptCommand s
  | .frame => subTick s
  | .seqConv => seqConv p s
  | .seqFrame => subTick s
  | .seqAdv => .next (seqAdv p s)
  | .halt => .next s

/-- One step under parameters `p`. -/
def stepWith (p : Params) (s : State) : Result :=
  match s.nextMove with
  | .core => coreStep p s.popMove
  | .prox v => .next (senseProx p v s.popMove)
  | .rst => .next (hardwareReset p s.popMove)

/-- The core at POS = IDLE with the word `w` on its port and the turn to move (notes/assumptions/11.md). -/
def presentWord (w : Word) (s : State) : State :=
  { s with pos := .idle, host := w :: s.host, moves := .core :: s.moves }

end Sys2Proof.Machine
end

