-- ==== Sys2Proof/Machine/Step.lean ====
section
/-! DEFINITION. The step of the core as built: `stepWith` under the build's parameters. -/

namespace Sys2Proof.Machine

/-- One atomic step of the core (R20, R56). -/
def step (s : State) : Host.Outcome State Fault Refusal := stepWith Config.params s

/-- `s` about to accept the opcode-table word `w`: the core fetches nothing, so the word is put on the command port
(R29, R60, R70; notes/assumptions/11.md). -/
def State.withFetchWord (s : State) (nbits w : Nat) : State := presentWord (tableWord nbits w) s

end Sys2Proof.Machine
end

