-- ==== Sys2Proof/Machine/Asm.lean ====
section
/-! DEFINITION. How command words are written down: listings (spec/00_scope.md R10), the assembler syntax and the
pseudo-instructions (spec/30_encoding.md R80, R81). What R80 does not say about the text is notes/assumptions/13.md. -/

namespace Sys2Proof.Machine

/-! ### Pseudo-instructions (R81) -/

/-- The pseudo-instructions of R81, each named after a contract of the document. -/
inductive Pseudo where
  | convert (h s v : Half)
  | interp (a b n k : Half)
  | render (h s v : Half)
  deriving DecidableEq, Repr

/-- LDI of a named operand register. -/
def loadOperand (n : OpReg) (v : Half) : Instr := .ldi (BitVec.ofNat 4 n.index.val) v

/-- CONVERT h, s, v (R81). -/
def expandConvert (h s v : Half) : List Instr :=
  [loadOperand .hue h, loadOperand .sat s, loadOperand .val v, .conv]

/-- The expansion of a pseudo-instruction, in order (R81). -/
def Pseudo.expand : Pseudo → List Instr
  | .convert h s v => expandConvert h s v
  | .interp a b n k =>
    [loadOperand .istart a, loadOperand .istop b, loadOperand .itotal n, loadOperand .istep k, .intp]
  | .render h s v => expandConvert h s v ++ [.frame]

/-! ### Listings (R10) -/

/-- One hexadecimal digit. -/
def hexDigit (n : Nat) : Char :=
  if n < 10 then Char.ofNat (48 + n) else Char.ofNat (55 + n)

/-- A command word as a line of a listing: `0x` and 8 digits, most significant first (R10). -/
def listingLine (w : Word) : List Char :=
  ['0', 'x'] ++ [7, 6, 5, 4, 3, 2, 1, 0].map fun i => hexDigit (w.toNat / 16 ^ i % 16)

/-! ### Reading a line (R80) -/

/-- The value of a digit character in base 16. -/
def digitValue (c : Char) : Option Nat :=
  let n := c.toNat
  if 48 ≤ n ∧ n ≤ 57 then some (n - 48)
  else if 65 ≤ n ∧ n ≤ 70 then some (n - 55)
  else if 97 ≤ n ∧ n ≤ 102 then some (n - 87)
  else none

/-- The digits of a number in a base, most significant first, after the value `acc`. -/
def readDigits (base : Nat) : List Char → Nat → Option Nat
  | [], acc => some acc
  | c :: cs, acc =>
    match digitValue c with
    | some d => if d < base then readDigits base cs (acc * base + d) else none
    | none => none

/-- An unsigned number: `0x` and hexadecimal digits, or decimal digits (R80). -/
def readNumber : List Char → Option Nat
  | [] => none
  | '0' :: 'x' :: c :: cs => readDigits 16 (c :: cs) 0
  | c :: cs => readDigits 10 (c :: cs) 0

/-- An immediate, 0 to 65535 (R80). -/
def readImmediate (t : List Char) : Option Half :=
  match readNumber t with
  | some n => if n < 65536 then some (BitVec.ofNat 16 n) else none
  | none => none

/-- The two spellings of each register (R80, R21). -/
def registerNames : List (List Char × OpReg) :=
  [("HUE".toList, .hue), ("SAT".toList, .sat), ("VAL".toList, .val), ("ISTART".toList, .istart),
   ("ISTOP".toList, .istop), ("ITOTAL".toList, .itotal), ("ISTEP".toList, .istep)] ++
  [("x0".toList, .hue), ("x1".toList, .sat), ("x2".toList, .val), ("x3".toList, .istart),
   ("x4".toList, .istop), ("x5".toList, .itotal), ("x6".toList, .istep)]

/-- A register, by its name or as x0 to x6 (R80). -/
def readRegister (t : List Char) : Option OpReg := registerNames.lookup t

/-- A blank between the parts of a line. -/
def isBlank (c : Char) : Bool := c = ' ' || c = '\t'

/-- Add the token read so far, if there is one. -/
def flushToken (cur : List Char) (rest : List (List Char)) : List (List Char) :=
  if cur = [] then rest else cur :: rest

/-- The tokens of a line, a comma being a token of its own; `;` starts a comment that runs to the end (R80). -/
def tokens : List Char → List Char → List (List Char)
  | [], cur => flushToken cur []
  | c :: cs, cur =>
    if c = ';' then flushToken cur []
    else if c = ',' then flushToken cur ([','] :: tokens cs [])
    else if isBlank c then flushToken cur (tokens cs [])
    else tokens cs (cur ++ [c])

/-- The mnemonic `t` is `name` in capitals or in small letters (R80). -/
def isMnemonic (name : List Char) (t : List Char) : Bool := t = name || t = name.map Char.toLower

/-- Operands separated by commas (R80). -/
def operandTokens : List (List Char) → Option (List (List Char))
  | [] => some []
  | [t] => if t = [','] then none else some [t]
  | t :: sep :: rest =>
    if t = [','] then none
    else if sep = [','] ∧ rest ≠ [] then (operandTokens rest).map (t :: ·)
    else none

/-- All the operands as immediates. -/
def readImmediates : List (List Char) → Option (List Half)
  | [] => some []
  | t :: ts =>
    match readImmediate t, readImmediates ts with
    | some v, some vs => some (v :: vs)
    | _, _ => none

/-- LDI's operands: a register, then an immediate (R80). -/
def readLdi : List (List Char) → Option Instr
  | [r, v] =>
    match readRegister r, readImmediate v with
    | some n, some imm => some (loadOperand n imm)
    | _, _ => none
  | _ => none

/-- A command without operands (R80). -/
def readPlain (i : Instr) : List (List Char) → Option (List Instr)
  | [] => some [i]
  | _ :: _ => none

/-- CONVERT and RENDER: three immediates (R81). -/
def readThree (f : Half → Half → Half → Pseudo) (ops : List (List Char)) : Option (List Instr) :=
  match readImmediates ops with
  | some [a, b, c] => some (f a b c).expand
  | _ => none

/-- INTERP: four immediates (R81). -/
def readFour (f : Half → Half → Half → Half → Pseudo) (ops : List (List Char)) : Option (List Instr) :=
  match readImmediates ops with
  | some [a, b, c, d] => some (f a b c d).expand
  | _ => none

/-- The commands of a mnemonic with its operands (R80, R81). -/
def readCommand (m : List Char) (ops : List (List Char)) : Option (List Instr) :=
  if isMnemonic "LDI".toList m then (readLdi ops).map ([·])
  else if isMnemonic "CONV".toList m then readPlain .conv ops
  else if isMnemonic "INTP".toList m then readPlain .intp ops
  else if isMnemonic "FRAME".toList m then readPlain .frame ops
  else if isMnemonic "RUN".toList m then readPlain .run ops
  else if isMnemonic "CONVERT".toList m then readThree .convert ops
  else if isMnemonic "INTERP".toList m then readFour .interp ops
  else if isMnemonic "RENDER".toList m then readThree .render ops
  else none

/-- The commands a line stands for; none where the line is not of R80's form. A line of blanks or comment stands for no
command. -/
def readLine (line : List Char) : Option (List Instr) :=
  match tokens line [] with
  | [] => some []
  | m :: rest =>
    match operandTokens rest with
    | some ops => readCommand m ops
    | none => none

/-- The command words of a line (R80). -/
def assembleLine (line : String) : Option (List Word) := (readLine line.toList).map (List.map encode)

end Sys2Proof.Machine
end

