-- ==== Sys2Proof/Safety.lean ====
section
/-! DEFINITION. What the spec says holds of every state a run reaches, and what counts as a safe run. -/

namespace Sys2Proof.Machine

/-- R25: CUR_HUE < 1536 and MIN_LEVEL ≤ LEVEL ≤ MAX_LEVEL. -/
structure AnimationInRange (p : Params) (s : State) : Prop where
  hue_lt : s.curHue.toNat < hueMax
  minLevel_le : p.minLevel ≤ s.level.toNat
  le_maxLevel : s.level.toNat ≤ p.maxLevel

/-- The animation state that hardware reset and the trigger write (R200, R231). -/
structure AnimationInitial (p : Params) (s : State) : Prop where
  hue : s.curHue = 0
  level : s.level.toNat = p.minLevel

/-- No frame is in progress: POS is neither FRAME nor SEQ_FRAME (R30). -/
def Pos.noFrame : Pos → Bool
  | .frame => false
  | .seqFrame => false
  | .idle => true
  | .seqConv => true
  | .seqAdv => true
  | .halt => true

/-- The facts the spec gives of every state reached from reset, under parameters `p`. -/
structure Inv (p : Params) (s : State) : Prop where
  /-- R25 -/
  animation : AnimationInRange p s
  /-- R162 item 4 for IDLE, R203 for FRAME and HALT -/
  initial : s.pos.running = false → AnimationInitial p s
  /-- R30: TICK holds 0 to 254 -/
  tick_lt : s.tick.toNat < subticks
  /-- R30: outside FRAME and SEQ_FRAME, TICK holds 0 -/
  tick_rest : s.pos.noFrame = true → s.tick = 0
  /-- R31: FRAMES_LEFT holds 0 when no frame is in progress -/
  frames_rest : s.pos.noFrame = true → s.framesLeft = 0
  /-- R31: FRAME renders one frame -/
  frames_frame : s.pos = .frame → s.framesLeft = 1
  /-- R31, R163: at least one frame of the latched count is left, and the count is at most MAX_LEVEL -/
  frames_seq : s.pos = .seqFrame → 1 ≤ s.framesLeft.toNat ∧ s.framesLeft.toNat ≤ p.maxLevel
  /-- R32, R192: a cause is held exactly in HALT -/
  cause_halt : s.cause = .none ↔ s.pos ≠ .halt
  /-- R23: HQ is a hue -/
  hq_lt : s.hq.toNat < hueMax

/-- `k` steps from `s`, stopping at the first fault or refusal: the host's run of the machine, at the model's own types. -/
def runSteps (k : Nat) (s : State) : Result := core.run k s

/-- "A model treats HALT as a fault state: it is never a good final state of a run" (R192). -/
def Good (s : State) : Prop := s.pos ≠ .halt

/-- The run of `k` steps from `s` does not stop and ends in a good state. -/
def SafeRun (k : Nat) (s : State) : Prop := ∃ t, runSteps k s = .next t ∧ Good t

end Sys2Proof.Machine
end

