-- ==== Sys2Proof/Certificates/Slice0/Obligations.lean ====
section
/-! DEFINITION. The statements for the provers. Each docstring names the rule of spec/ it comes from. The reference forms
under `Sys2Proof.Spec` are written from the rules' own listings, apart from the model's functions. -/

namespace Sys2Proof.Spec

open Sys2Proof.Machine

/-- `raw[i]` of R108's listing, for a reduced hue `h`. -/
def raw (h i : Nat) : Nat :=
  if i = h / 256 % 3 then 255 - h % 256 else if i = (h / 256 % 3 + 1) % 3 then h % 256 else 0

/-- `w` of R108's listing for channel `i`. -/
def white (hue sat i : Nat) : Nat :=
  raw (hue % 1536) i + (255 - raw (hue % 1536) i) * (100 - min sat 100) / 100

/-- `out[i]` of R108's listing. -/
def channel (hue sat val i : Nat) : Nat := white hue sat i * min val 100 / 100

/-- `lin` of R122. -/
def lin (start stop : Int) : Int := |stop - start|

/-- `interpolate` as R125 lists it. -/
def interp (start stop n k : Int) : Int :=
  if lin start stop ≤ 768 then
    if start ≤ stop then (start + lin start stop * k / n + 1536) % 1536
    else (start - lin start stop * k / n + 1536) % 1536
  else
    if start ≤ stop then (start - (1536 - lin start stop) * k / n + 1536) % 1536
    else (start + (1536 - lin start stop) * k / n + 1536) % 1536

/-- `decode` as R74 lists it, with the fields taken by arithmetic. -/
def decode (w : Nat) : Option Instr :=
  if w / 2 ^ 16 % 2 ^ 8 ≠ 0 then none
  else if w / 2 ^ 28 = 1 then
    if w / 2 ^ 24 % 2 ^ 4 ≤ 6 then some (.ldi (BitVec.ofNat 4 (w / 2 ^ 24)) (BitVec.ofNat 16 w)) else none
  else if w / 2 ^ 24 % 2 ^ 4 ≠ 0 ∨ w % 2 ^ 16 ≠ 0 then none
  else if w / 2 ^ 28 = 2 then some .conv
  else if w / 2 ^ 28 = 3 then some .intp
  else if w / 2 ^ 28 = 4 then some .frame
  else if w / 2 ^ 28 = 5 then some .run
  else none

/-- A word decodes to Illegal. -/
def Illegal (w : Word) : Prop := ∀ i, Sys2Proof.decode w ≠ .ok i

/-- The core's turn at POS = IDLE with `w` presented: the step that accepts `w` (R70). -/
structure Accepts (s : State) (w : Word) : Prop where
  turn : s.nextMove = .core
  ready : s.pos = .idle
  valid : s.cmdPort = some w

/-- The state in which an accepted command runs: its word and the turn are taken, every register is as before. -/
def taken (s : State) : State := { s with host := s.host.tail, moves := s.moves.tail }

/-- The turn is taken, every register is as before. -/
def turned (s : State) : State := { s with moves := s.moves.tail }

/-- A change of `prox` from `old` to `new` that TRIG_EDGE selects (R199). -/
def Edge (old new : Bool) : Prop :=
  (Config.params.trigEdge ≠ .falling ∧ old = false ∧ new = true) ∨
  (Config.params.trigEdge ≠ .rising ∧ old = true ∧ new = false)

/-- Among the levels `vs` the line takes one after the other, some change is a trigger event. -/
def SomeEdge : Bool → List Bool → Prop
  | _, [] => False
  | old, v :: vs => Edge old v ∨ SomeEdge v vs

/-- The next positions of R29's table. -/
def nextPositions : Pos → List Pos
  | .idle => [.idle, .frame, .seqConv, .halt]
  | .frame => [.frame, .idle]
  | .seqConv => [.seqFrame]
  | .seqFrame => [.seqFrame, .seqAdv]
  | .seqAdv => [.seqConv]
  | .halt => [.halt]

/-- INTP's contract on the operand registers (R120). -/
structure IntpLegal (s : State) : Prop where
  total_pos : 1 ≤ s.x[5].toNat
  start_lt : s.x[3].toNat < 1536
  stop_lt : s.x[4].toNat < 1536
  step_le : s.x[6].toNat ≤ s.x[5].toNat

/-- The lines after the sub-tick at counter `k` in the colour of `s` (R142). -/
def withLines (k : Nat) (s : State) : State :=
  { s with lineR := decide (k < s.r.toNat), lineG := decide (k < s.g.toNat), lineB := decide (k < s.b.toNat) }

/-- The state after `n` steps, where the run does not stop. -/
def after (n : Nat) (s : State) : Option State :=
  match runSteps n s with
  | .next t => some t
  | .fault _ => none
  | .refused _ => none

/-- In how many of the 255 sub-ticks after a FRAME accepted at `s` the chosen line is active. -/
def activeSubTicks (line : State → Bool) (s : State) : Nat :=
  ((List.range 255).filter fun k => (after (k + 2) s).any line).length

/-- The number of hue steps in a sweep, ceil(1536 / HUE_STEP) (R167). -/
def stepsPerSweep (p : Params) : Nat := (1536 + p.hueStep - 1) / p.hueStep

/-- The repeat count MAX_LEVEL / LEVEL of the current level (R163). -/
def rep (s : State) : Nat := Config.params.maxLevel / s.level.toNat

/-- The colour SEQ_CONV writes (R163). -/
def withHueColour (s : State) : State :=
  { s with
    r := BitVec.ofNat 8 (channel s.curHue.toNat Config.params.seqSat.toNat (Config.params.seqVal s.level).toNat 0)
    g := BitVec.ofNat 8 (channel s.curHue.toNat Config.params.seqSat.toNat (Config.params.seqVal s.level).toNat 1)
    b := BitVec.ofNat 8 (channel s.curHue.toNat Config.params.seqSat.toNat (Config.params.seqVal s.level).toNat 2) }

/-- The animation state SEQ_ADV writes (R166). -/
def withAdvance (s : State) : State :=
  if s.curHue.toNat + Config.params.hueStep < 1536 then
    { s with curHue := BitVec.ofNat 16 (s.curHue.toNat + Config.params.hueStep) }
  else
    { s with curHue := 0, level := BitVec.ofNat 8 (min (s.level.toNat + Config.params.iteStep) Config.params.maxLevel) }

/-- The animation state the trigger writes (R200). -/
def withInitialAnimation (s : State) : State :=
  { s with curHue := 0, level := BitVec.ofNat 8 Config.params.minLevel }

end Sys2Proof.Spec

open Sys2Proof Sys2Proof.Machine

/-! ### Parameters and encoding -/

/-- R7: the build's parameters, of which nothing else is known, meet the spec's constraints. -/
def Obligations.BuildParametersMeetConstraints : Prop := Config.params.Valid

/-- R74: the decoder is the rule's listing, on every word. -/
def Obligations.DecodeIsRuleListing : Prop :=
  ∀ w : Word, decodeTableWord 32 w.toNat = Spec.decode w.toNat ∧
    ((∃ i, decode w = .ok i ∧ Spec.decode w.toNat = some i) ∨ (Spec.Illegal w ∧ Spec.decode w.toNat = none))

/-- R73: the match and mask of each row, with `rd ≤ 6` for LDI. -/
def Obligations.DecodeAgreesWithMatchAndMask : Prop :=
  ∀ w : Word,
    ((∃ rd imm, decode w = .ok (.ldi rd imm)) ↔ w &&& 0xF0FF0000#32 = 0x10000000#32 ∧ (w.extractLsb' 24 4).toNat ≤ 6) ∧
    (decode w = .ok .conv ↔ w &&& 0xFFFFFFFF#32 = 0x20000000#32) ∧
    (decode w = .ok .intp ↔ w &&& 0xFFFFFFFF#32 = 0x30000000#32) ∧
    (decode w = .ok .frame ↔ w &&& 0xFFFFFFFF#32 = 0x40000000#32) ∧
    (decode w = .ok .run ↔ w &&& 0xFFFFFFFF#32 = 0x50000000#32)

/-- Every well-formed command's word decodes to it, with every register and every immediate. -/
def Obligations.DecodeOfEncodeIsTheCommand : Prop :=
  ∀ i : Instr, i.WellFormed = true → decode (encode i) = .ok i

/-- A legal word has one meaning: what it decodes to is a command and encodes to the same word. -/
def Obligations.EncodeOfDecodeIsTheWord : Prop :=
  ∀ (w : Word) (i : Instr), decode w = .ok i → i.WellFormed = true ∧ encode i = w

/-- R78: the illegal words are exactly the four classes the rule lists. -/
def Obligations.IllegalWordsAreTheFourClasses : Prop :=
  ∀ w : Word, Spec.Illegal w ↔
    (w.extractLsb' 16 8 ≠ 0 ∨
     ((w.extractLsb' 28 4).toNat = 0 ∨ 6 ≤ (w.extractLsb' 28 4).toNat) ∨
     ((w.extractLsb' 28 4).toNat = 1 ∧ 7 ≤ (w.extractLsb' 24 4).toNat) ∨
     (2 ≤ (w.extractLsb' 28 4).toNat ∧ (w.extractLsb' 28 4).toNat ≤ 5 ∧
       (w.extractLsb' 24 4 ≠ 0 ∨ w.extractLsb' 0 16 ≠ 0)))

/-- Words written out in spec/30_encoding.md R80 and spec/95_test_vectors.md 2.2 decode as they say. -/
def Obligations.SpecWordsDecode : Prop :=
  decode 0x1000012C#32 = .ok (.ldi 0 300) ∧ decode 0x16000005#32 = .ok (.ldi 6 5) ∧
  decode 0x1600FFFF#32 = .ok (.ldi 6 0xFFFF) ∧ decode 0x20000000#32 = .ok .conv ∧
  decode 0x30000000#32 = .ok .intp ∧ decode 0x40000000#32 = .ok .frame ∧ decode 0x50000000#32 = .ok .run ∧
  Spec.Illegal 0x17000000#32 ∧ Spec.Illegal 0x10010000#32 ∧ Spec.Illegal 0x00000000#32 ∧
  Spec.Illegal 0x20000001#32 ∧ Spec.Illegal 0x21000000#32 ∧ Spec.Illegal 0xFFFFFFFF#32

/-- R81: with no event between (`moves` is empty), the pseudo-instruction CONVERT, accepted as its four commands from IDLE,
leaves the three operands loaded and the colour of `convert(h, s, v)` in R, G, B, and changes nothing else. -/
def Obligations.ConvertPseudoInstructionMeetsItsContract : Prop :=
  ∀ (s : State) (h sa v : Half) (ws : List Word),
    s.pos = .idle → s.moves = [] → s.host = (Pseudo.convert h sa v).expand.map encode ++ ws →
    ∃ t, runSteps 4 s = .next t ∧ t.x[0] = h ∧ t.x[1] = sa ∧ t.x[2] = v ∧
      (∀ j : Fin 7, 3 ≤ j.val → t.x[j] = s.x[j]) ∧
      t.r = BitVec.ofNat 8 (Spec.channel h.toNat sa.toNat v.toNat 0) ∧
      t.g = BitVec.ofNat 8 (Spec.channel h.toNat sa.toNat v.toNat 1) ∧
      t.b = BitVec.ofNat 8 (Spec.channel h.toNat sa.toNat v.toNat 2) ∧
      t = { s with x := t.x, r := t.r, g := t.g, b := t.b, host := ws }

/-- R80: the rule's table of lines and words. -/
def Obligations.AssemblerSyntaxTable : Prop :=
  assembleLine "LDI HUE, 300" = some [0x1000012C#32] ∧ assembleLine "LDI x6, 0xFFFF" = some [0x1600FFFF#32] ∧
  assembleLine "CONV" = some [0x20000000#32] ∧ assembleLine "INTP" = some [0x30000000#32] ∧
  assembleLine "FRAME" = some [0x40000000#32] ∧ assembleLine "RUN" = some [0x50000000#32]

/-! ### The command port -/

/-- R70, R60: the step that accepts a word runs the command it decodes to, in the state with the word and the turn taken. -/
def Obligations.StepRunsTheDecodedCommand : Prop :=
  ∀ (s : State) (w : Word) (i : Instr), Spec.Accepts s w → decode w = .ok i → step s = exec i (Spec.taken s)

/-- R70: in any position but IDLE no command is taken, and what the host presents changes nothing but the list of words
it presents. -/
def Obligations.BusyPortIgnoresCommands : Prop :=
  ∀ (s t : State) (h : List Word), s.pos ≠ .idle → step s = .next t →
    s.cmdReady = false ∧ t.host = s.host ∧ step { s with host := h } = .next { t with host := h }

/-- The core waits at IDLE with no command and in HALT: nothing changes but the turn. That waiting is a step is the
model's choice (notes/assumptions/5.md). -/
def Obligations.WaitingChangesNothing : Prop :=
  ∀ s : State, s.nextMove = .core → (s.pos = .halt ∨ (s.pos = .idle ∧ s.cmdPort = none)) →
    step s = .next (Spec.turned s)

/-! ### LDI -/

/-- R90: LDI writes the named operand register, as given, and nothing else. -/
def Obligations.LdiWritesOneOperandRegister : Prop :=
  ∀ (rd : BitVec 4) (imm : Half) (s : State), rd.toNat ≤ 6 →
    ∃ t, exec (.ldi rd imm) s = .next t ∧
      (∀ j : Fin 7, t.x[j] = if j.val = rd.toNat then imm else s.x[j]) ∧ t = { s with x := t.x }

/-- R90 Encoding and Faults: the word is 0x10000000 + rd × 0x01000000 + imm for every `rd` and `imm`; with `rd ≥ 7` it is
illegal, and accepting it writes no operand register. -/
def Obligations.LdiEncodingAndIllegalRegister : Prop :=
  ∀ (rd : BitVec 4) (imm : Half),
    (encode (.ldi rd imm)).toNat = 0x10000000 + rd.toNat * 0x01000000 + imm.toNat ∧
    (7 ≤ rd.toNat → ∀ s : State, Spec.Accepts s (encode (.ldi rd imm)) →
      step s = .next { Spec.taken s with cause := .illegalCmd, pos := .halt })

/-! ### The converter and CONV -/

/-- R109: CONV writes the colour of HUE, SAT, VAL by R108's listing, and nothing else; it completes in every state. -/
def Obligations.ConvWritesConvertedColour : Prop :=
  ∀ s : State, exec .conv s = .next { s with
    r := BitVec.ofNat 8 (Spec.channel s.x[0].toNat s.x[1].toNat s.x[2].toNat 0)
    g := BitVec.ofNat 8 (Spec.channel s.x[0].toNat s.x[1].toNat s.x[2].toNat 1)
    b := BitVec.ofNat 8 (Spec.channel s.x[0].toNat s.x[1].toNat s.x[2].toNat 2) }

/-- R108: `convert` by the sector table is the rule's listing, and every intermediate value is below 2^15. -/
def Obligations.ConvertIsRuleListing : Prop :=
  ∀ hue sat val : Half,
    convert hue.toNat sat.toNat val.toNat = ⟨Spec.channel hue.toNat sat.toNat val.toNat 0,
      Spec.channel hue.toNat sat.toNat val.toNat 1, Spec.channel hue.toNat sat.toNat val.toNat 2⟩ ∧
    hue.toNat % 1536 / 256 % 3 = sector (reduceHue hue.toNat) % 3 ∧ hue.toNat % 1536 < 2 ^ 15 ∧
    ∀ i < 3, (255 - Spec.raw (hue.toNat % 1536) i) * (100 - min sat.toNat 100) < 2 ^ 15 ∧
      Spec.white hue.toNat sat.toNat i * min val.toNat 100 < 2 ^ 15 ∧
      Spec.raw (hue.toNat % 1536) i ≤ 255 ∧ Spec.white hue.toNat sat.toNat i ≤ 255 ∧
      Spec.channel hue.toNat sat.toNat val.toNat i ≤ 255

/-- R105: the raw triple of a reduced hue: `fall`, `rise` and 0 on the channels c, c + 1, c + 2; a second channel is 0
exactly at the ends of the sector; the three sum to 255. -/
def Obligations.RawTripleByRotation : Prop :=
  ∀ h < 1536, ∃ a : Fin 3 → Nat, rawColour h = ⟨a 0, a 1, a 2⟩ ∧
    (∀ i j k : Fin 3, i.val = sector h % 3 → j.val = (sector h % 3 + 1) % 3 → k.val = (sector h % 3 + 2) % 3 →
      a i = 255 - sectorPos h ∧ a j = sectorPos h ∧ a k = 0 ∧
      (a i = 0 ↔ sectorPos h = 255) ∧ (a j = 0 ↔ sectorPos h = 0)) ∧
    (∀ i, a i ≤ 255) ∧ a 0 + a 1 + a 2 = 255

/-- R101: the reduction in the two spellings the rule gives. -/
def Obligations.HueReductionFromTheRegisterBits : Prop :=
  ∀ hue : Half, reduceHue hue.toNat < 1536 ∧
    reduceHue hue.toNat = hue.toNat % 1536 ∧
    sector (reduceHue hue.toNat) = reduceHue hue.toNat / 256 ∧ sector (reduceHue hue.toNat) ≤ 5 ∧
    sector (reduceHue hue.toNat) = (hue.extractLsb' 8 8).toNat % 6 ∧
    sectorPos (reduceHue hue.toNat) = (hue.extractLsb' 0 8).toNat

/-- R106: the blend, its bounds, its ends, and the two other expressions the rule compares with it. -/
def Obligations.SaturationBlend : Prop :=
  (∀ s raw : Nat, s ≤ 100 → raw ≤ 255 →
    blend s raw = raw + ((255 - raw) * (100 - s)) / 100 ∧ (255 - raw) * (100 - s) ≤ 25500 ∧
    raw ≤ blend s raw ∧ blend s raw ≤ 255 ∧ blend 100 raw = raw ∧ blend 0 raw = 255 ∧
    blend s raw = (raw * s + 255 * (100 - s)) / 100 ∧
    (255 - ((255 - raw) * s) / 100 = blend s raw ∨ 255 - ((255 - raw) * s) / 100 = blend s raw + 1)) ∧
  ∃ s raw : Nat, s ≤ 100 ∧ raw ≤ 255 ∧ 255 - ((255 - raw) * s) / 100 = blend s raw + 1

/-- R107: the scaling, its bounds and its ends. -/
def Obligations.BrightnessScale : Prop :=
  ∀ v w : Nat, v ≤ 100 → w ≤ 255 →
    scale v w = (w * v) / 100 ∧ w * v ≤ 25500 ∧ scale v w ≤ w ∧ scale 100 w = w ∧ scale 0 w = 0

/-- R110 items 1 and 5: at full saturation and brightness every sector begins with a primary colour, and ends with the one
the next sector begins with. -/
def Obligations.SectorBoundaryColours : Prop :=
  ∀ n : Nat,
    convert (256 * n) 100 100 =
      ⟨if n % 3 = 0 then 255 else 0, if n % 3 = 1 then 255 else 0, if n % 3 = 2 then 255 else 0⟩ ∧
    convert (256 * n + 255) 100 100 = convert (256 * (n + 1)) 100 100

/-- R110 items 2, 3 and 9: no saturation gives grey (white at full brightness); no brightness gives black. -/
def Obligations.GreyAndBlack : Prop :=
  ∀ hue sat val : Nat,
    convert hue 0 val = ⟨255 * min val 100 / 100, 255 * min val 100 / 100, 255 * min val 100 / 100⟩ ∧
    convert hue 0 100 = ⟨255, 255, 255⟩ ∧ convert hue sat 0 = ⟨0, 0, 0⟩

/-- R110 items 4 and 7: periodicity in the hue, clamping of the percentages. -/
def Obligations.ConvertPeriodicAndClamped : Prop :=
  ∀ hue sat val : Nat,
    convert (hue % 1536) sat val = convert hue sat val ∧ convert (hue + 1536) sat val = convert hue sat val ∧
    (100 ≤ sat → convert hue sat val = convert hue 100 val) ∧ (100 ≤ val → convert hue sat val = convert hue sat 100)

/-- R110 item 8: raising the brightness never lowers a channel, nor does lowering the saturation. -/
def Obligations.ConvertMonotone : Prop :=
  ∀ hue sat sat' val val' : Nat, val ≤ val' → sat' ≤ sat →
    (convert hue sat val).red ≤ (convert hue sat' val').red ∧
    (convert hue sat val).green ≤ (convert hue sat' val').green ∧
    (convert hue sat val).blue ≤ (convert hue sat' val').blue

/-! ### The interpolator and INTP -/

/-- R126, R125: within its contract INTP writes the rule's interpolated hue to HQ and nothing else. -/
def Obligations.IntpWritesInterpolatedHue : Prop :=
  ∀ s : State, Spec.IntpLegal s →
    exec .intp s = .next { s with
      hq := BitVec.ofInt 16 (Spec.interp s.x[3].toNat s.x[4].toNat s.x[5].toNat s.x[6].toNat) } ∧
    0 ≤ Spec.interp s.x[3].toNat s.x[4].toNat s.x[5].toNat s.x[6].toNat ∧
    Spec.interp s.x[3].toNat s.x[4].toNat s.x[5].toNat s.x[6].toNat < 1536

/-- R121: a call outside the contract raises the first fault in the order DIV_ZERO, HUE_RANGE, STEP_RANGE, and writes only
CAUSE and POS. -/
def Obligations.IntpFaultsInOrder : Prop :=
  ∀ s : State,
    (s.x[5].toNat = 0 → exec .intp s = .next { s with cause := .divZero, pos := .halt }) ∧
    (s.x[5].toNat ≠ 0 → (1536 ≤ s.x[3].toNat ∨ 1536 ≤ s.x[4].toNat) →
      exec .intp s = .next { s with cause := .hueRange, pos := .halt }) ∧
    (s.x[5].toNat ≠ 0 → s.x[3].toNat < 1536 → s.x[4].toNat < 1536 → s.x[5].toNat < s.x[6].toNat →
      exec .intp s = .next { s with cause := .stepRange, pos := .halt })

/-- R122, R123: the distances, their ranges, and the direction table. -/
def Obligations.ArcAndDirection : Prop :=
  ∀ start stop : Nat, start < 1536 → stop < 1536 →
    (linDistance start stop : Int) = |(stop : Int) - start| ∧ linDistance start stop ≤ 1535 ∧
    arcDistance start stop = min (linDistance start stop) (1536 - linDistance start stop) ∧
    (768 < linDistance start stop → 1 ≤ arcDistance start stop ∧ arcDistance start stop ≤ 767) ∧
    (direction start stop = .forward ↔ (start ≤ stop ↔ linDistance start stop ≤ 768))

/-- R127 items 1, 2, 4 and 8: exact at both ends, stable at zero distance, always a hue. -/
def Obligations.InterpolateExactAtBothEnds : Prop :=
  ∀ start stop n k : Nat, start < 1536 → stop < 1536 → 1 ≤ n → k ≤ n →
    interpolate start stop n 0 = start ∧ interpolate start stop n n = stop ∧
    interpolate start start n k = start ∧ interpolate start stop n k < 1536

/-- R124, R11: the result lies `off` = arc × k / n units of arc from the start and `arc - off` units of arc from the stop,
`arc` being the shorter of the two ways round. -/
def Obligations.InterpolateTravelsTheShorterArc : Prop :=
  ∀ start stop n k : Nat, start < 1536 → stop < 1536 → 1 ≤ n → k ≤ n →
    arcDistance start (interpolate start stop n k) = arcDistance start stop * k / n ∧
    arcDistance (interpolate start stop n k) stop = arcDistance start stop - arcDistance start stop * k / n

/-! ### FRAME and the sub-tick -/

/-- R141: FRAME completes in every state: TICK <- 0, FRAMES_LEFT <- 1, POS <- FRAME, and nothing else is written. -/
def Obligations.FrameStartsOneFrame : Prop :=
  ∀ s : State, exec .frame s = .next { s with tick := 0, framesLeft := 1, pos := .frame }

/-- R142: the sub-tick step in FRAME and SEQ_FRAME. The rule counts down from FRAMES_LEFT ≥ 1 (R31); TICK ≤ 254 (R30). -/
def Obligations.SubTickStep : Prop :=
  ∀ s : State, s.nextMove = .core → (s.pos = .frame ∨ s.pos = .seqFrame) →
    (s.tick.toNat < 254 → step s = .next { Spec.withLines s.tick.toNat (Spec.turned s) with
      tick := BitVec.ofNat 8 (s.tick.toNat + 1) }) ∧
    (s.tick.toNat = 254 → 2 ≤ s.framesLeft.toNat → step s = .next { Spec.withLines 254 (Spec.turned s) with
      tick := 0, framesLeft := BitVec.ofNat 8 (s.framesLeft.toNat - 1) }) ∧
    (s.tick.toNat = 254 → s.framesLeft.toNat = 1 → step s = .next { Spec.withLines 254 (Spec.turned s) with
      tick := 0, framesLeft := 0, pos := if s.pos = .frame then .idle else .seqAdv })

/-- R143: with no event between, an accepted FRAME is 255 sub-tick steps with TICK = 0, 1, …, 254, each writing the three
comparisons, after which the core is at IDLE again. -/
def Obligations.FrameIs255SubTicks : Prop :=
  ∀ (s : State) (ws : List Word), s.pos = .idle → s.moves = [] → s.host = encode .frame :: ws →
    runSteps 1 s = .next { s with host := ws, pos := .frame, tick := 0, framesLeft := 1 } ∧
    (∀ k < 254, runSteps (k + 2) s = .next (Spec.withLines k
      { s with host := ws, pos := .frame, tick := BitVec.ofNat 8 (k + 1), framesLeft := 1 })) ∧
    runSteps 256 s = .next (Spec.withLines 254 { s with host := ws, pos := .idle, tick := 0, framesLeft := 0 })

/-- R143: in a frame that no event falls into (`moves` is empty), each line is active for exactly as many of the 255
sub-ticks as its channel's intensity. -/
def Obligations.DutyCycleIsTheIntensity : Prop :=
  ∀ (s : State) (ws : List Word), s.pos = .idle → s.moves = [] → s.host = encode .frame :: ws →
    Spec.activeSubTicks State.lineR s = s.r.toNat ∧ Spec.activeSubTicks State.lineG s = s.g.toNat ∧
    Spec.activeSubTicks State.lineB s = s.b.toNat

/-! ### RUN and the sequencer -/

/-- R161: RUN completes in every state: POS <- SEQ_CONV, and nothing else is written. -/
def Obligations.RunEntersTheSequencer : Prop :=
  ∀ s : State, exec .run s = .next { s with pos := .seqConv }

/-- R163: SEQ_CONV writes the colour of the current hue and the repeat count, which is 1 to 255. -/
def Obligations.SeqConvStep : Prop :=
  ∀ s : State, s.nextMove = .core → s.pos = .seqConv → AnimationInRange Config.params s →
    step s = .next { Spec.withHueColour (Spec.turned s) with
      framesLeft := BitVec.ofNat 8 (Config.params.maxLevel / s.level.toNat), tick := 0, pos := .seqFrame } ∧
    1 ≤ Config.params.maxLevel / s.level.toNat ∧
    Config.params.maxLevel / s.level.toNat ≤ Config.params.maxLevel ∧ Config.params.maxLevel ≤ 255

/-- R166: SEQ_ADV advances the hue, or wraps it to 0 and steps the level with the clamp, and keeps R25's invariant. -/
def Obligations.SeqAdvStep : Prop :=
  ∀ s : State, s.nextMove = .core → s.pos = .seqAdv →
    step s = .next { Spec.withAdvance (Spec.turned s) with pos := .seqConv } ∧
    (AnimationInRange Config.params s → AnimationInRange Config.params (Spec.withAdvance s))

/-- R162: with no event between, a hue step is SEQ_CONV, 255 × rep sub-tick steps in that colour, and SEQ_ADV. -/
def Obligations.HueStepIsOneCycle : Prop :=
  ∀ s : State, Inv Config.params s → s.pos = .seqConv → s.moves = [] →
    (∀ k < 255 * Spec.rep s, ∃ t, runSteps (k + 1) s = .next t ∧ t.pos = .seqFrame ∧
      t = { Spec.withHueColour s with
        pos := .seqFrame, tick := t.tick, framesLeft := t.framesLeft,
        lineR := t.lineR, lineG := t.lineG, lineB := t.lineB }) ∧
    (∃ t, runSteps (255 * Spec.rep s + 1) s = .next t ∧ t.pos = .seqAdv) ∧
    runSteps (255 * Spec.rep s + 2) s = .next (Spec.withLines 254 (Spec.withAdvance (Spec.withHueColour s)))

/-- R167: with no event between, a sweep from hue 0 at SEQ_CONV takes N × (255 × rep + 2) steps, N being the number of hue
steps in a sweep, and ends at hue 0 with the level stepped and clamped. -/
def Obligations.SweepStepsTheLevel : Prop :=
  ∀ s : State, Inv Config.params s → s.pos = .seqConv → s.moves = [] → s.curHue = 0 →
    ∃ t, runSteps (Spec.stepsPerSweep Config.params * (255 * Spec.rep s + 2)) s = .next t ∧
      t.pos = .seqConv ∧ t.curHue = 0 ∧
      t.level.toNat = min (s.level.toNat + Config.params.iteStep) Config.params.maxLevel

/-- R168: the pair (CUR_HUE, LEVEL) advanced from (0, MIN_LEVEL) by the hue steps of j sweeps is (0, min(MIN_LEVEL +
j × ITE_STEP, MAX_LEVEL)), and the level is MAX_LEVEL exactly from the ceil((MAX_LEVEL - MIN_LEVEL) / ITE_STEP)-th sweep on;
for all parameter values. -/
def Obligations.LevelRamp : Prop :=
  ∀ (p : Params) (j : Nat), p.Valid →
    (advancePair p)^[j * Spec.stepsPerSweep p] (0, p.minLevel) =
      (0, min (p.minLevel + j * p.iteStep) p.maxLevel) ∧
    (min (p.minLevel + j * p.iteStep) p.maxLevel = p.maxLevel ↔
      (p.maxLevel - p.minLevel + p.iteStep - 1) / p.iteStep ≤ j)

/-- R129, R161: outside IDLE the operand registers and HQ are not read: changing them changes no other register, in every
step but a reset. -/
def Obligations.SequencerReadsNeitherOperandsNorHq : Prop :=
  ∀ (s t : State) (x : Vector Half 7) (v : Half), s.pos ≠ .idle → s.nextMove ≠ .rst → step s = .next t →
    step { s with x := x, hq := v } = .next { t with x := x, hq := v }

/-! ### The trigger -/

/-- R199, R200: a change of `prox` that TRIG_EDGE selects is a trigger event, and its step writes the animation state, in
every position, and nothing else but the line's own level. That the level is state is the model's choice
(notes/assumptions/4.md); that any other level is a step that writes no register is deduced (notes/assumptions/16.md). -/
def Obligations.TriggerStep : Prop :=
  ∀ (s : State) (v : Bool), s.nextMove = .prox v →
    (Spec.Edge s.prox v → step s = .next (Spec.withInitialAnimation { Spec.turned s with prox := v })) ∧
    (¬ Spec.Edge s.prox v → step s = .next { Spec.turned s with prox := v })

/-- R202: any number of level changes in succession, at least one of them a trigger event, leave the animation state as one
trigger does, and every other register as it was.
A level that is no selected edge writes no register (deduced: notes/assumptions/16.md). -/
def Obligations.TriggerIdempotent : Prop :=
  ∀ (s : State) (v : Bool) (vs : List Bool) (ms : List Move), s.moves = (v :: vs).map .prox ++ ms →
    Spec.SomeEdge s.prox (v :: vs) →
    runSteps (vs.length + 1) s =
      .next (Spec.withInitialAnimation { s with prox := (v :: vs).getLast (List.cons_ne_nil v vs), moves := ms })

/-- R147, R205: except where the sequencer reads the animation state (SEQ_CONV, SEQ_ADV), a change of `prox` and the core's
step give the same state in either order; a frame in progress does not see the trigger.
The level is state by the model's choice (notes/assumptions/4.md). -/
def Obligations.TriggerCommutesOutsideTheReads : Prop :=
  ∀ (s : State) (v : Bool) (ms : List Move), s.pos ≠ .seqConv → s.pos ≠ .seqAdv →
    runSteps 2 { s with moves := .prox v :: .core :: ms } = runSteps 2 { s with moves := .core :: .prox v :: ms }

/-- R169: a trigger before SEQ_ADV makes it write (HUE_STEP, MIN_LEVEL); a trigger before SEQ_CONV makes it convert hue 0 at
MIN_LEVEL for MAX_LEVEL / MIN_LEVEL frames. -/
def Obligations.TriggerBeforeASequencerRead : Prop :=
  ∀ (s : State) (v : Bool) (ms : List Move), s.moves = .prox v :: .core :: ms → Spec.Edge s.prox v →
    (s.pos = .seqAdv → runSteps 2 s = .next { s with
      curHue := BitVec.ofNat 16 Config.params.hueStep,
      level := BitVec.ofNat 8 Config.params.minLevel,
      pos := .seqConv, prox := v, moves := ms }) ∧
    (s.pos = .seqConv → runSteps 2 s = .next { Spec.withHueColour (Spec.withInitialAnimation s) with
      framesLeft := BitVec.ofNat 8 (Config.params.maxLevel / Config.params.minLevel), tick := 0,
      pos := .seqFrame, prox := v, moves := ms })

/-- R203: at IDLE, in FRAME and in HALT a reached state already holds what the trigger writes. A level that is no selected edge
writes no register either (deduced: notes/assumptions/16.md). -/
def Obligations.TriggerIsNoOpOutsideTheSequencer : Prop :=
  ∀ (s : State) (v : Bool), Inv Config.params s → s.nextMove = .prox v →
    (s.pos = .idle ∨ s.pos = .frame ∨ s.pos = .halt) → step s = .next { Spec.turned s with prox := v }

/-! ### Faults and HALT -/

/-- R78, R192: accepting an illegal word writes CAUSE and POS and nothing else. -/
def Obligations.IllegalWordHalts : Prop :=
  ∀ (s : State) (w : Word), Spec.Accepts s w → Spec.Illegal w →
    step s = .next { Spec.taken s with cause := .illegalCmd, pos := .halt }

/-- R190, R192: HALT is entered only by accepting an illegal word or an INTP outside its contract, and then it is. -/
def Obligations.OnlyABadCommandHalts : Prop :=
  ∀ s t : State, s.pos ≠ .halt → step s = .next t →
    (t.pos = .halt ↔ ∃ w, Spec.Accepts s w ∧ (Spec.Illegal w ∨ (decode w = .ok .intp ∧ ¬ Spec.IntpLegal s)))

/-- R193: in HALT the port is not ready and STATUS reads FAULT with the cause, and hardware reset leaves HALT; a step that is
no hardware reset leaves every register but the animation state, which only a trigger event can write. That the core's turn
in HALT is a step, changing only the turn, is the model's choice (notes/assumptions/5.md); that a level which is no selected
edge writes no register is deduced (notes/assumptions/16.md). -/
def Obligations.HaltIsLeftOnlyByReset : Prop :=
  ∀ s : State, s.pos = .halt →
    s.cmdReady = false ∧ s.status.extractLsb' 2 1 = 1 ∧ s.status.extractLsb' 3 3 = s.cause.code ∧
    (s.nextMove = .rst → ∃ t, step s = .next t ∧ t.pos = .idle ∧ t.cause = .none) ∧
    (s.nextMove = .core → step s = .next (Spec.turned s)) ∧
    (∀ v, s.nextMove = .prox v → ∃ t, step s = .next t ∧
      t = { Spec.turned s with prox := v, curHue := t.curHue, level := t.level } ∧
      (¬ Spec.Edge s.prox v → t.curHue = s.curHue ∧ t.level = s.level))

/-- R32, R191: the codes of CAUSE; it is written only by a fault, at IDLE, and by hardware reset, and once it is not NONE
only a reset changes it. -/
def Obligations.CauseIsSticky : Prop :=
  (Cause.none.code = 0 ∧ Cause.illegalCmd.code = 1 ∧ Cause.divZero.code = 2 ∧ Cause.hueRange.code = 3 ∧
    Cause.stepRange.code = 4) ∧
  ∀ s t : State, step s = .next t →
    (t.cause ≠ s.cause → s.nextMove = .rst ∨ (s.nextMove = .core ∧ s.pos = .idle ∧ t.pos = .halt)) ∧
    (Inv Config.params s → s.cause ≠ .none → s.nextMove ≠ .rst → t.cause = s.cause)

/-! ### Reset -/

/-- R230: hardware reset, in every position, is one step that writes every register to its reset value. -/
def Obligations.HardwareResetWritesEveryRegister : Prop :=
  ∀ s : State, s.nextMove = .rst → ∃ t, step s = .next t ∧ t =
    { x := Vector.replicate 7 0, r := 0, g := 0, b := 0, hq := 0, curHue := 0,
      level := BitVec.ofNat 8 Config.params.minLevel, pos := .idle, tick := 0, framesLeft := 0, cause := .none,
      lineR := false, lineG := false, lineB := false, prox := t.prox, host := t.host, moves := t.moves }

/-- R38: the reset value of every register and of the view STATUS. -/
def Obligations.ResetValues : Prop :=
  (∀ i : Fin 7, State.reset.x[i] = 0) ∧ State.reset.r = 0 ∧ State.reset.g = 0 ∧ State.reset.b = 0 ∧
  State.reset.hq = 0 ∧ State.reset.curHue = 0 ∧ State.reset.level.toNat = Config.params.minLevel ∧
  State.reset.pos = .idle ∧ State.reset.tick = 0 ∧ State.reset.framesLeft = 0 ∧ State.reset.cause = .none ∧
  State.reset.lineR = false ∧ State.reset.lineG = false ∧ State.reset.lineB = false ∧ State.reset.status = 0x00

/-! ### Whole-machine rules -/

/-- R25, R30, R31, R162 item 4, R203, R23 hold at reset. -/
def Obligations.InvariantHoldsAtReset : Prop := Inv Config.params State.reset

/-- From every state with the invariant a step answers a next state (no step stops), and the invariant holds there. -/
def Obligations.EveryStepKeepsTheInvariant : Prop :=
  ∀ s : State, Inv Config.params s → ∃ t, step s = .next t ∧ Inv Config.params t

/-- R160, R161: a running sequencer goes on for ever. As long as no hardware reset comes, whatever the trigger does, every
run of it is safe, it is still running, and no command of the host has been taken. -/
def Obligations.SequencerRunsForEver : Prop :=
  ∀ (s : State) (k : Nat), Inv Config.params s → s.pos.running = true → .rst ∉ s.moves →
    SafeRun k s ∧ ∃ t, runSteps k s = .next t ∧ t.pos.running = true ∧ t.host = s.host

/-- R25: the invariant of the animation state, true after reset and kept by every step; and its writers. -/
def Obligations.AnimationStaysInRange : Prop :=
  AnimationInRange Config.params State.reset ∧
  ∀ s t : State, step s = .next t →
    (AnimationInRange Config.params s → AnimationInRange Config.params t) ∧
    ((t.curHue ≠ s.curHue ∨ t.level ≠ s.level) →
      s.nextMove = .rst ∨ (∃ v, s.nextMove = .prox v ∧ Spec.Edge s.prox v) ∨
      (s.nextMove = .core ∧ s.pos = .seqAdv))

/-- R29: POS advances only as the table says; the trigger never writes it; hardware reset writes IDLE. With the codes. -/
def Obligations.PositionTransitions : Prop :=
  (Pos.idle.code = 0 ∧ Pos.frame.code = 1 ∧ Pos.seqConv.code = 2 ∧ Pos.seqFrame.code = 3 ∧ Pos.seqAdv.code = 4 ∧
    Pos.halt.code = 7) ∧
  ∀ s t : State, step s = .next t →
    (s.nextMove = .core → t.pos ∈ Spec.nextPositions s.pos) ∧ (∀ v, s.nextMove = .prox v → t.pos = s.pos) ∧
    (s.nextMove = .rst → t.pos = .idle)

/-- R33: STATUS bit by bit, its upper bits and its reset value. -/
def Obligations.StatusView : Prop :=
  (∀ s : State,
    (s.status.getLsbD 0 = true ↔ s.pos = .frame ∨ s.pos = .seqConv ∨ s.pos = .seqFrame ∨ s.pos = .seqAdv) ∧
    (s.status.getLsbD 1 = true ↔ s.pos = .seqConv ∨ s.pos = .seqFrame ∨ s.pos = .seqAdv) ∧
    (s.status.getLsbD 2 = true ↔ s.pos = .halt) ∧ s.status.extractLsb' 3 3 = s.cause.code ∧
    s.status.getLsbD 6 = false ∧ s.status.getLsbD 7 = false) ∧
  State.reset.status = 0x00

/-- R21, R22, R23, R30, R31, R34, R39: who may write the operand registers, the colour, HQ, the lines, TICK and FRAMES_LEFT in
a step that is no hardware reset. -/
def Obligations.RegisterWriters : Prop :=
  ∀ s t : State, step s = .next t → s.nextMove ≠ .rst →
    (t.x ≠ s.x → ∃ w rd imm, Spec.Accepts s w ∧ decode w = .ok (.ldi rd imm)) ∧
    ((t.r ≠ s.r ∨ t.g ≠ s.g ∨ t.b ≠ s.b) →
      (∃ w, Spec.Accepts s w ∧ decode w = .ok .conv) ∨ (s.nextMove = .core ∧ s.pos = .seqConv)) ∧
    (t.hq ≠ s.hq → ∃ w, Spec.Accepts s w ∧ decode w = .ok .intp) ∧
    ((t.lineR ≠ s.lineR ∨ t.lineG ≠ s.lineG ∨ t.lineB ≠ s.lineB) →
      s.nextMove = .core ∧ (s.pos = .frame ∨ s.pos = .seqFrame)) ∧
    ((t.tick ≠ s.tick ∨ t.framesLeft ≠ s.framesLeft) →
      (∃ w, Spec.Accepts s w ∧ decode w = .ok .frame) ∨
      (s.nextMove = .core ∧ (s.pos = .seqConv ∨ s.pos = .frame ∨ s.pos = .seqFrame)))

/-- The frame of the five commands: what each leaves unchanged, and that none reads or writes the animation state (R26, R27),
the lines (R34) or the inputs still to come: with other values there it does the same. -/
def Obligations.CommandFrames : Prop :=
  ∀ (i : Instr) (s t : State), exec i s = .next t →
    (t.curHue = s.curHue ∧ t.level = s.level ∧ t.lineR = s.lineR ∧ t.lineG = s.lineG ∧ t.lineB = s.lineB ∧
      t.prox = s.prox ∧ t.host = s.host ∧ t.moves = s.moves) ∧
    ((∀ rd imm, i ≠ .ldi rd imm) → t.x = s.x) ∧
    (i ≠ .conv → t.r = s.r ∧ t.g = s.g ∧ t.b = s.b) ∧
    (i ≠ .intp → t.hq = s.hq) ∧
    (i ≠ .frame → t.tick = s.tick ∧ t.framesLeft = s.framesLeft) ∧
    (i ≠ .frame → i ≠ .run → t.pos = s.pos ∨ t.pos = .halt) ∧
    (i.WellFormed = true → i ≠ .intp → t.cause = s.cause) ∧
    (∀ (h : Half) (l : Byte) (lr lg lb px : Bool) (ho : List Word) (mv : List Move),
      exec i { s with curHue := h, level := l, lineR := lr, lineG := lg, lineB := lb, prox := px, host := ho, moves := mv } =
        .next { t with
          curHue := h, level := l, lineR := lr, lineG := lg, lineB := lb, prox := px, host := ho, moves := mv })

/-- Where a step stops: SEQ_CONV at LEVEL = 0, and the last sub-tick at FRAMES_LEFT = 0, each under its own name. These
stops are the model's choice (notes/assumptions/6.md and 7.md); nothing is ever refused. -/
def Obligations.StepStopsOnlyWhereARuleHasNoValue : Prop :=
  ∀ s : State, (∀ why, step s ≠ .refused why) ∧
    (step s = .fault .levelZero ↔ s.nextMove = .core ∧ s.pos = .seqConv ∧ s.level = 0) ∧
    (step s = .fault .noFrameLeft ↔
      s.nextMove = .core ∧ (s.pos = .frame ∨ s.pos = .seqFrame) ∧ 254 ≤ s.tick.toNat ∧ s.framesLeft = 0)
end

