-- ==== Sys2Proof/Laws/Config.lean ====
section
/-! SUPPORT. What is known of the build's parameters: their ranges, one lemma per bound of R7 that the provers need. -/

namespace Sys2Proof

theorem minLevel_eq : Config.params.minLevel = Config.minLevelLess1.val + 1 := rfl

theorem one_le_minLevel : 1 ≤ Config.params.minLevel := by rw [minLevel_eq]; omega

theorem minLevel_le_maxLevel : Config.params.minLevel ≤ Config.params.maxLevel := Nat.le_add_right _ _

theorem maxLevel_le_255 : Config.params.maxLevel ≤ 255 := by
  have hm := Config.minLevelLess1.isLt
  have hs := Nat.mod_lt Config.levelSpan (show 0 < 255 - Config.minLevelLess1.val by omega)
  change Config.minLevelLess1.val + 1 + Config.levelSpan % (255 - Config.minLevelLess1.val) ≤ 255
  omega

theorem iteStep_bounds : 1 ≤ Config.params.iteStep ∧ Config.params.iteStep ≤ 255 :=
  ⟨Nat.le_add_left 1 _, Config.iteStepLess1.isLt⟩

theorem hueStep_bounds : 1 ≤ Config.params.hueStep ∧ Config.params.hueStep < 1536 :=
  ⟨Nat.le_add_left 1 _, Nat.succ_lt_succ Config.hueStepLess1.isLt⟩

theorem one_le_subtickDelay : 1 ≤ Config.params.subtickDelay := Nat.le_add_left 1 _

end Sys2Proof
end

