-- ==== Sys2Proof/Laws/State.lean ====
section
/-! SUPPORT. One lemma per field of State per named update, so that no proof unfolds a record update. -/

namespace Sys2Proof.Machine

variable (s : State)

/-! ### writeX -/

@[simp] theorem writeX_x (i : Fin 7) (v : Half) : (s.writeX i v).x = s.x.set i v := rfl
@[simp] theorem writeX_r (i : Fin 7) (v : Half) : (s.writeX i v).r = s.r := rfl
@[simp] theorem writeX_g (i : Fin 7) (v : Half) : (s.writeX i v).g = s.g := rfl
@[simp] theorem writeX_b (i : Fin 7) (v : Half) : (s.writeX i v).b = s.b := rfl
@[simp] theorem writeX_hq (i : Fin 7) (v : Half) : (s.writeX i v).hq = s.hq := rfl
@[simp] theorem writeX_curHue (i : Fin 7) (v : Half) : (s.writeX i v).curHue = s.curHue := rfl
@[simp] theorem writeX_level (i : Fin 7) (v : Half) : (s.writeX i v).level = s.level := rfl
@[simp] theorem writeX_pos (i : Fin 7) (v : Half) : (s.writeX i v).pos = s.pos := rfl
@[simp] theorem writeX_tick (i : Fin 7) (v : Half) : (s.writeX i v).tick = s.tick := rfl
@[simp] theorem writeX_framesLeft (i : Fin 7) (v : Half) : (s.writeX i v).framesLeft = s.framesLeft := rfl
@[simp] theorem writeX_cause (i : Fin 7) (v : Half) : (s.writeX i v).cause = s.cause := rfl
@[simp] theorem writeX_lineR (i : Fin 7) (v : Half) : (s.writeX i v).lineR = s.lineR := rfl
@[simp] theorem writeX_lineG (i : Fin 7) (v : Half) : (s.writeX i v).lineG = s.lineG := rfl
@[simp] theorem writeX_lineB (i : Fin 7) (v : Half) : (s.writeX i v).lineB = s.lineB := rfl
@[simp] theorem writeX_prox (i : Fin 7) (v : Half) : (s.writeX i v).prox = s.prox := rfl
@[simp] theorem writeX_host (i : Fin 7) (v : Half) : (s.writeX i v).host = s.host := rfl
@[simp] theorem writeX_moves (i : Fin 7) (v : Half) : (s.writeX i v).moves = s.moves := rfl

/-! ### writeColour -/

@[simp] theorem writeColour_x (cr cg cb : Byte) : (s.writeColour cr cg cb).x = s.x := rfl
@[simp] theorem writeColour_r (cr cg cb : Byte) : (s.writeColour cr cg cb).r = cr := rfl
@[simp] theorem writeColour_g (cr cg cb : Byte) : (s.writeColour cr cg cb).g = cg := rfl
@[simp] theorem writeColour_b (cr cg cb : Byte) : (s.writeColour cr cg cb).b = cb := rfl
@[simp] theorem writeColour_hq (cr cg cb : Byte) : (s.writeColour cr cg cb).hq = s.hq := rfl
@[simp] theorem writeColour_curHue (cr cg cb : Byte) : (s.writeColour cr cg cb).curHue = s.curHue := rfl
@[simp] theorem writeColour_level (cr cg cb : Byte) : (s.writeColour cr cg cb).level = s.level := rfl
@[simp] theorem writeColour_pos (cr cg cb : Byte) : (s.writeColour cr cg cb).pos = s.pos := rfl
@[simp] theorem writeColour_tick (cr cg cb : Byte) : (s.writeColour cr cg cb).tick = s.tick := rfl
@[simp] theorem writeColour_framesLeft (cr cg cb : Byte) : (s.writeColour cr cg cb).framesLeft = s.framesLeft := rfl
@[simp] theorem writeColour_cause (cr cg cb : Byte) : (s.writeColour cr cg cb).cause = s.cause := rfl
@[simp] theorem writeColour_lineR (cr cg cb : Byte) : (s.writeColour cr cg cb).lineR = s.lineR := rfl
@[simp] theorem writeColour_lineG (cr cg cb : Byte) : (s.writeColour cr cg cb).lineG = s.lineG := rfl
@[simp] theorem writeColour_lineB (cr cg cb : Byte) : (s.writeColour cr cg cb).lineB = s.lineB := rfl
@[simp] theorem writeColour_prox (cr cg cb : Byte) : (s.writeColour cr cg cb).prox = s.prox := rfl
@[simp] theorem writeColour_host (cr cg cb : Byte) : (s.writeColour cr cg cb).host = s.host := rfl
@[simp] theorem writeColour_moves (cr cg cb : Byte) : (s.writeColour cr cg cb).moves = s.moves := rfl

/-! ### writeHq -/

@[simp] theorem writeHq_x (v : Half) : (s.writeHq v).x = s.x := rfl
@[simp] theorem writeHq_r (v : Half) : (s.writeHq v).r = s.r := rfl
@[simp] theorem writeHq_g (v : Half) : (s.writeHq v).g = s.g := rfl
@[simp] theorem writeHq_b (v : Half) : (s.writeHq v).b = s.b := rfl
@[simp] theorem writeHq_hq (v : Half) : (s.writeHq v).hq = v := rfl
@[simp] theorem writeHq_curHue (v : Half) : (s.writeHq v).curHue = s.curHue := rfl
@[simp] theorem writeHq_level (v : Half) : (s.writeHq v).level = s.level := rfl
@[simp] theorem writeHq_pos (v : Half) : (s.writeHq v).pos = s.pos := rfl
@[simp] theorem writeHq_tick (v : Half) : (s.writeHq v).tick = s.tick := rfl
@[simp] theorem writeHq_framesLeft (v : Half) : (s.writeHq v).framesLeft = s.framesLeft := rfl
@[simp] theorem writeHq_cause (v : Half) : (s.writeHq v).cause = s.cause := rfl
@[simp] theorem writeHq_lineR (v : Half) : (s.writeHq v).lineR = s.lineR := rfl
@[simp] theorem writeHq_lineG (v : Half) : (s.writeHq v).lineG = s.lineG := rfl
@[simp] theorem writeHq_lineB (v : Half) : (s.writeHq v).lineB = s.lineB := rfl
@[simp] theorem writeHq_prox (v : Half) : (s.writeHq v).prox = s.prox := rfl
@[simp] theorem writeHq_host (v : Half) : (s.writeHq v).host = s.host := rfl
@[simp] theorem writeHq_moves (v : Half) : (s.writeHq v).moves = s.moves := rfl

/-! ### writeAnimation -/

@[simp] theorem writeAnimation_x (h : Half) (l : Byte) : (s.writeAnimation h l).x = s.x := rfl
@[simp] theorem writeAnimation_r (h : Half) (l : Byte) : (s.writeAnimation h l).r = s.r := rfl
@[simp] theorem writeAnimation_g (h : Half) (l : Byte) : (s.writeAnimation h l).g = s.g := rfl
@[simp] theorem writeAnimation_b (h : Half) (l : Byte) : (s.writeAnimation h l).b = s.b := rfl
@[simp] theorem writeAnimation_hq (h : Half) (l : Byte) : (s.writeAnimation h l).hq = s.hq := rfl
@[simp] theorem writeAnimation_curHue (h : Half) (l : Byte) : (s.writeAnimation h l).curHue = h := rfl
@[simp] theorem writeAnimation_level (h : Half) (l : Byte) : (s.writeAnimation h l).level = l := rfl
@[simp] theorem writeAnimation_pos (h : Half) (l : Byte) : (s.writeAnimation h l).pos = s.pos := rfl
@[simp] theorem writeAnimation_tick (h : Half) (l : Byte) : (s.writeAnimation h l).tick = s.tick := rfl
@[simp] theorem writeAnimation_framesLeft (h : Half) (l : Byte) : (s.writeAnimation h l).framesLeft = s.framesLeft := rfl
@[simp] theorem writeAnimation_cause (h : Half) (l : Byte) : (s.writeAnimation h l).cause = s.cause := rfl
@[simp] theorem writeAnimation_lineR (h : Half) (l : Byte) : (s.writeAnimation h l).lineR = s.lineR := rfl
@[simp] theorem writeAnimation_lineG (h : Half) (l : Byte) : (s.writeAnimation h l).lineG = s.lineG := rfl
@[simp] theorem writeAnimation_lineB (h : Half) (l : Byte) : (s.writeAnimation h l).lineB = s.lineB := rfl
@[simp] theorem writeAnimation_prox (h : Half) (l : Byte) : (s.writeAnimation h l).prox = s.prox := rfl
@[simp] theorem writeAnimation_host (h : Half) (l : Byte) : (s.writeAnimation h l).host = s.host := rfl
@[simp] theorem writeAnimation_moves (h : Half) (l : Byte) : (s.writeAnimation h l).moves = s.moves := rfl

/-! ### setPos -/

@[simp] theorem setPos_x (q : Pos) : (s.setPos q).x = s.x := rfl
@[simp] theorem setPos_r (q : Pos) : (s.setPos q).r = s.r := rfl
@[simp] theorem setPos_g (q : Pos) : (s.setPos q).g = s.g := rfl
@[simp] theorem setPos_b (q : Pos) : (s.setPos q).b = s.b := rfl
@[simp] theorem setPos_hq (q : Pos) : (s.setPos q).hq = s.hq := rfl
@[simp] theorem setPos_curHue (q : Pos) : (s.setPos q).curHue = s.curHue := rfl
@[simp] theorem setPos_level (q : Pos) : (s.setPos q).level = s.level := rfl
@[simp] theorem setPos_pos (q : Pos) : (s.setPos q).pos = q := rfl
@[simp] theorem setPos_tick (q : Pos) : (s.setPos q).tick = s.tick := rfl
@[simp] theorem setPos_framesLeft (q : Pos) : (s.setPos q).framesLeft = s.framesLeft := rfl
@[simp] theorem setPos_cause (q : Pos) : (s.setPos q).cause = s.cause := rfl
@[simp] theorem setPos_lineR (q : Pos) : (s.setPos q).lineR = s.lineR := rfl
@[simp] theorem setPos_lineG (q : Pos) : (s.setPos q).lineG = s.lineG := rfl
@[simp] theorem setPos_lineB (q : Pos) : (s.setPos q).lineB = s.lineB := rfl
@[simp] theorem setPos_prox (q : Pos) : (s.setPos q).prox = s.prox := rfl
@[simp] theorem setPos_host (q : Pos) : (s.setPos q).host = s.host := rfl
@[simp] theorem setPos_moves (q : Pos) : (s.setPos q).moves = s.moves := rfl

/-! ### startFrames -/

@[simp] theorem startFrames_x (n : Byte) (q : Pos) : (s.startFrames n q).x = s.x := rfl
@[simp] theorem startFrames_r (n : Byte) (q : Pos) : (s.startFrames n q).r = s.r := rfl
@[simp] theorem startFrames_g (n : Byte) (q : Pos) : (s.startFrames n q).g = s.g := rfl
@[simp] theorem startFrames_b (n : Byte) (q : Pos) : (s.startFrames n q).b = s.b := rfl
@[simp] theorem startFrames_hq (n : Byte) (q : Pos) : (s.startFrames n q).hq = s.hq := rfl
@[simp] theorem startFrames_curHue (n : Byte) (q : Pos) : (s.startFrames n q).curHue = s.curHue := rfl
@[simp] theorem startFrames_level (n : Byte) (q : Pos) : (s.startFrames n q).level = s.level := rfl
@[simp] theorem startFrames_pos (n : Byte) (q : Pos) : (s.startFrames n q).pos = q := rfl
@[simp] theorem startFrames_tick (n : Byte) (q : Pos) : (s.startFrames n q).tick = 0 := rfl
@[simp] theorem startFrames_framesLeft (n : Byte) (q : Pos) : (s.startFrames n q).framesLeft = n := rfl
@[simp] theorem startFrames_cause (n : Byte) (q : Pos) : (s.startFrames n q).cause = s.cause := rfl
@[simp] theorem startFrames_lineR (n : Byte) (q : Pos) : (s.startFrames n q).lineR = s.lineR := rfl
@[simp] theorem startFrames_lineG (n : Byte) (q : Pos) : (s.startFrames n q).lineG = s.lineG := rfl
@[simp] theorem startFrames_lineB (n : Byte) (q : Pos) : (s.startFrames n q).lineB = s.lineB := rfl
@[simp] theorem startFrames_prox (n : Byte) (q : Pos) : (s.startFrames n q).prox = s.prox := rfl
@[simp] theorem startFrames_host (n : Byte) (q : Pos) : (s.startFrames n q).host = s.host := rfl
@[simp] theorem startFrames_moves (n : Byte) (q : Pos) : (s.startFrames n q).moves = s.moves := rfl

/-! ### driveLines -/

@[simp] theorem driveLines_x (lr lg lb : Bool) : (s.driveLines lr lg lb).x = s.x := rfl
@[simp] theorem driveLines_r (lr lg lb : Bool) : (s.driveLines lr lg lb).r = s.r := rfl
@[simp] theorem driveLines_g (lr lg lb : Bool) : (s.driveLines lr lg lb).g = s.g := rfl
@[simp] theorem driveLines_b (lr lg lb : Bool) : (s.driveLines lr lg lb).b = s.b := rfl
@[simp] theorem driveLines_hq (lr lg lb : Bool) : (s.driveLines lr lg lb).hq = s.hq := rfl
@[simp] theorem driveLines_curHue (lr lg lb : Bool) : (s.driveLines lr lg lb).curHue = s.curHue := rfl
@[simp] theorem driveLines_level (lr lg lb : Bool) : (s.driveLines lr lg lb).level = s.level := rfl
@[simp] theorem driveLines_pos (lr lg lb : Bool) : (s.driveLines lr lg lb).pos = s.pos := rfl
@[simp] theorem driveLines_tick (lr lg lb : Bool) : (s.driveLines lr lg lb).tick = s.tick := rfl
@[simp] theorem driveLines_framesLeft (lr lg lb : Bool) : (s.driveLines lr lg lb).framesLeft = s.framesLeft := rfl
@[simp] theorem driveLines_cause (lr lg lb : Bool) : (s.driveLines lr lg lb).cause = s.cause := rfl
@[simp] theorem driveLines_lineR (lr lg lb : Bool) : (s.driveLines lr lg lb).lineR = lr := rfl
@[simp] theorem driveLines_lineG (lr lg lb : Bool) : (s.driveLines lr lg lb).lineG = lg := rfl
@[simp] theorem driveLines_lineB (lr lg lb : Bool) : (s.driveLines lr lg lb).lineB = lb := rfl
@[simp] theorem driveLines_prox (lr lg lb : Bool) : (s.driveLines lr lg lb).prox = s.prox := rfl
@[simp] theorem driveLines_host (lr lg lb : Bool) : (s.driveLines lr lg lb).host = s.host := rfl
@[simp] theorem driveLines_moves (lr lg lb : Bool) : (s.driveLines lr lg lb).moves = s.moves := rfl

/-! ### popMove -/

@[simp] theorem popMove_x : (s.popMove).x = s.x := rfl
@[simp] theorem popMove_r : (s.popMove).r = s.r := rfl
@[simp] theorem popMove_g : (s.popMove).g = s.g := rfl
@[simp] theorem popMove_b : (s.popMove).b = s.b := rfl
@[simp] theorem popMove_hq : (s.popMove).hq = s.hq := rfl
@[simp] theorem popMove_curHue : (s.popMove).curHue = s.curHue := rfl
@[simp] theorem popMove_level : (s.popMove).level = s.level := rfl
@[simp] theorem popMove_pos : (s.popMove).pos = s.pos := rfl
@[simp] theorem popMove_tick : (s.popMove).tick = s.tick := rfl
@[simp] theorem popMove_framesLeft : (s.popMove).framesLeft = s.framesLeft := rfl
@[simp] theorem popMove_cause : (s.popMove).cause = s.cause := rfl
@[simp] theorem popMove_lineR : (s.popMove).lineR = s.lineR := rfl
@[simp] theorem popMove_lineG : (s.popMove).lineG = s.lineG := rfl
@[simp] theorem popMove_lineB : (s.popMove).lineB = s.lineB := rfl
@[simp] theorem popMove_prox : (s.popMove).prox = s.prox := rfl
@[simp] theorem popMove_host : (s.popMove).host = s.host := rfl
@[simp] theorem popMove_moves : (s.popMove).moves = s.moves.tail := rfl

/-! ### setHost -/

@[simp] theorem setHost_x (ws : List Word) : (s.setHost ws).x = s.x := rfl
@[simp] theorem setHost_r (ws : List Word) : (s.setHost ws).r = s.r := rfl
@[simp] theorem setHost_g (ws : List Word) : (s.setHost ws).g = s.g := rfl
@[simp] theorem setHost_b (ws : List Word) : (s.setHost ws).b = s.b := rfl
@[simp] theorem setHost_hq (ws : List Word) : (s.setHost ws).hq = s.hq := rfl
@[simp] theorem setHost_curHue (ws : List Word) : (s.setHost ws).curHue = s.curHue := rfl
@[simp] theorem setHost_level (ws : List Word) : (s.setHost ws).level = s.level := rfl
@[simp] theorem setHost_pos (ws : List Word) : (s.setHost ws).pos = s.pos := rfl
@[simp] theorem setHost_tick (ws : List Word) : (s.setHost ws).tick = s.tick := rfl
@[simp] theorem setHost_framesLeft (ws : List Word) : (s.setHost ws).framesLeft = s.framesLeft := rfl
@[simp] theorem setHost_cause (ws : List Word) : (s.setHost ws).cause = s.cause := rfl
@[simp] theorem setHost_lineR (ws : List Word) : (s.setHost ws).lineR = s.lineR := rfl
@[simp] theorem setHost_lineG (ws : List Word) : (s.setHost ws).lineG = s.lineG := rfl
@[simp] theorem setHost_lineB (ws : List Word) : (s.setHost ws).lineB = s.lineB := rfl
@[simp] theorem setHost_prox (ws : List Word) : (s.setHost ws).prox = s.prox := rfl
@[simp] theorem setHost_host (ws : List Word) : (s.setHost ws).host = ws := rfl
@[simp] theorem setHost_moves (ws : List Word) : (s.setHost ws).moves = s.moves := rfl

/-! ### raiseFault -/

@[simp] theorem raiseFault_x (c : Cause) : (raiseFault c s).x = s.x := rfl
@[simp] theorem raiseFault_r (c : Cause) : (raiseFault c s).r = s.r := rfl
@[simp] theorem raiseFault_g (c : Cause) : (raiseFault c s).g = s.g := rfl
@[simp] theorem raiseFault_b (c : Cause) : (raiseFault c s).b = s.b := rfl
@[simp] theorem raiseFault_hq (c : Cause) : (raiseFault c s).hq = s.hq := rfl
@[simp] theorem raiseFault_curHue (c : Cause) : (raiseFault c s).curHue = s.curHue := rfl
@[simp] theorem raiseFault_level (c : Cause) : (raiseFault c s).level = s.level := rfl
@[simp] theorem raiseFault_pos (c : Cause) : (raiseFault c s).pos = .halt := rfl
@[simp] theorem raiseFault_tick (c : Cause) : (raiseFault c s).tick = s.tick := rfl
@[simp] theorem raiseFault_framesLeft (c : Cause) : (raiseFault c s).framesLeft = s.framesLeft := rfl
@[simp] theorem raiseFault_cause (c : Cause) : (raiseFault c s).cause = c := rfl
@[simp] theorem raiseFault_lineR (c : Cause) : (raiseFault c s).lineR = s.lineR := rfl
@[simp] theorem raiseFault_lineG (c : Cause) : (raiseFault c s).lineG = s.lineG := rfl
@[simp] theorem raiseFault_lineB (c : Cause) : (raiseFault c s).lineB = s.lineB := rfl
@[simp] theorem raiseFault_prox (c : Cause) : (raiseFault c s).prox = s.prox := rfl
@[simp] theorem raiseFault_host (c : Cause) : (raiseFault c s).host = s.host := rfl
@[simp] theorem raiseFault_moves (c : Cause) : (raiseFault c s).moves = s.moves := rfl

/-! ### trigger -/

@[simp] theorem trigger_x (p : Params) : (trigger p s).x = s.x := rfl
@[simp] theorem trigger_r (p : Params) : (trigger p s).r = s.r := rfl
@[simp] theorem trigger_g (p : Params) : (trigger p s).g = s.g := rfl
@[simp] theorem trigger_b (p : Params) : (trigger p s).b = s.b := rfl
@[simp] theorem trigger_hq (p : Params) : (trigger p s).hq = s.hq := rfl
@[simp] theorem trigger_curHue (p : Params) : (trigger p s).curHue = 0 := rfl
@[simp] theorem trigger_level (p : Params) : (trigger p s).level = BitVec.ofNat 8 p.minLevel := rfl
@[simp] theorem trigger_pos (p : Params) : (trigger p s).pos = s.pos := rfl
@[simp] theorem trigger_tick (p : Params) : (trigger p s).tick = s.tick := rfl
@[simp] theorem trigger_framesLeft (p : Params) : (trigger p s).framesLeft = s.framesLeft := rfl
@[simp] theorem trigger_cause (p : Params) : (trigger p s).cause = s.cause := rfl
@[simp] theorem trigger_lineR (p : Params) : (trigger p s).lineR = s.lineR := rfl
@[simp] theorem trigger_lineG (p : Params) : (trigger p s).lineG = s.lineG := rfl
@[simp] theorem trigger_lineB (p : Params) : (trigger p s).lineB = s.lineB := rfl
@[simp] theorem trigger_prox (p : Params) : (trigger p s).prox = s.prox := rfl
@[simp] theorem trigger_host (p : Params) : (trigger p s).host = s.host := rfl
@[simp] theorem trigger_moves (p : Params) : (trigger p s).moves = s.moves := rfl

/-! ### hardwareReset -/

@[simp] theorem hardwareReset_x (p : Params) : (hardwareReset p s).x = Vector.replicate 7 0 := rfl
@[simp] theorem hardwareReset_r (p : Params) : (hardwareReset p s).r = 0 := rfl
@[simp] theorem hardwareReset_g (p : Params) : (hardwareReset p s).g = 0 := rfl
@[simp] theorem hardwareReset_b (p : Params) : (hardwareReset p s).b = 0 := rfl
@[simp] theorem hardwareReset_hq (p : Params) : (hardwareReset p s).hq = 0 := rfl
@[simp] theorem hardwareReset_curHue (p : Params) : (hardwareReset p s).curHue = 0 := rfl
@[simp] theorem hardwareReset_level (p : Params) : (hardwareReset p s).level = BitVec.ofNat 8 p.minLevel := rfl
@[simp] theorem hardwareReset_pos (p : Params) : (hardwareReset p s).pos = .idle := rfl
@[simp] theorem hardwareReset_tick (p : Params) : (hardwareReset p s).tick = 0 := rfl
@[simp] theorem hardwareReset_framesLeft (p : Params) : (hardwareReset p s).framesLeft = 0 := rfl
@[simp] theorem hardwareReset_cause (p : Params) : (hardwareReset p s).cause = .none := rfl
@[simp] theorem hardwareReset_lineR (p : Params) : (hardwareReset p s).lineR = false := rfl
@[simp] theorem hardwareReset_lineG (p : Params) : (hardwareReset p s).lineG = false := rfl
@[simp] theorem hardwareReset_lineB (p : Params) : (hardwareReset p s).lineB = false := rfl
@[simp] theorem hardwareReset_prox (p : Params) : (hardwareReset p s).prox = s.prox := rfl
@[simp] theorem hardwareReset_host (p : Params) : (hardwareReset p s).host = s.host := rfl
@[simp] theorem hardwareReset_moves (p : Params) : (hardwareReset p s).moves = s.moves := rfl

/-! ### setTick -/

@[simp] theorem setTick_x (v : Byte) : (s.setTick v).x = s.x := rfl
@[simp] theorem setTick_r (v : Byte) : (s.setTick v).r = s.r := rfl
@[simp] theorem setTick_g (v : Byte) : (s.setTick v).g = s.g := rfl
@[simp] theorem setTick_b (v : Byte) : (s.setTick v).b = s.b := rfl
@[simp] theorem setTick_hq (v : Byte) : (s.setTick v).hq = s.hq := rfl
@[simp] theorem setTick_curHue (v : Byte) : (s.setTick v).curHue = s.curHue := rfl
@[simp] theorem setTick_level (v : Byte) : (s.setTick v).level = s.level := rfl
@[simp] theorem setTick_pos (v : Byte) : (s.setTick v).pos = s.pos := rfl
@[simp] theorem setTick_tick (v : Byte) : (s.setTick v).tick = v := rfl
@[simp] theorem setTick_framesLeft (v : Byte) : (s.setTick v).framesLeft = s.framesLeft := rfl
@[simp] theorem setTick_cause (v : Byte) : (s.setTick v).cause = s.cause := rfl
@[simp] theorem setTick_lineR (v : Byte) : (s.setTick v).lineR = s.lineR := rfl
@[simp] theorem setTick_lineG (v : Byte) : (s.setTick v).lineG = s.lineG := rfl
@[simp] theorem setTick_lineB (v : Byte) : (s.setTick v).lineB = s.lineB := rfl
@[simp] theorem setTick_prox (v : Byte) : (s.setTick v).prox = s.prox := rfl
@[simp] theorem setTick_host (v : Byte) : (s.setTick v).host = s.host := rfl
@[simp] theorem setTick_moves (v : Byte) : (s.setTick v).moves = s.moves := rfl

/-! ### setProx -/

@[simp] theorem setProx_x (v : Bool) : (s.setProx v).x = s.x := rfl
@[simp] theorem setProx_r (v : Bool) : (s.setProx v).r = s.r := rfl
@[simp] theorem setProx_g (v : Bool) : (s.setProx v).g = s.g := rfl
@[simp] theorem setProx_b (v : Bool) : (s.setProx v).b = s.b := rfl
@[simp] theorem setProx_hq (v : Bool) : (s.setProx v).hq = s.hq := rfl
@[simp] theorem setProx_curHue (v : Bool) : (s.setProx v).curHue = s.curHue := rfl
@[simp] theorem setProx_level (v : Bool) : (s.setProx v).level = s.level := rfl
@[simp] theorem setProx_pos (v : Bool) : (s.setProx v).pos = s.pos := rfl
@[simp] theorem setProx_tick (v : Bool) : (s.setProx v).tick = s.tick := rfl
@[simp] theorem setProx_framesLeft (v : Bool) : (s.setProx v).framesLeft = s.framesLeft := rfl
@[simp] theorem setProx_cause (v : Bool) : (s.setProx v).cause = s.cause := rfl
@[simp] theorem setProx_lineR (v : Bool) : (s.setProx v).lineR = s.lineR := rfl
@[simp] theorem setProx_lineG (v : Bool) : (s.setProx v).lineG = s.lineG := rfl
@[simp] theorem setProx_lineB (v : Bool) : (s.setProx v).lineB = s.lineB := rfl
@[simp] theorem setProx_prox (v : Bool) : (s.setProx v).prox = v := rfl
@[simp] theorem setProx_host (v : Bool) : (s.setProx v).host = s.host := rfl
@[simp] theorem setProx_moves (v : Bool) : (s.setProx v).moves = s.moves := rfl

end Sys2Proof.Machine
end

