-- ==== Sys2Proof/Laws/Convert.lean ====
section
/-! SUPPORT. The converter's pieces: ranges, and the row of a sector. -/

namespace Sys2Proof.Machine

theorem reduceHue_lt (h : Nat) : reduceHue h < 1536 := Nat.mod_lt h (by decide)

theorem sectorPos_lt (h : Nat) : sectorPos h < 256 := Nat.mod_lt h (by decide)

theorem sector_lt (h : Nat) : sector h < 6 := Nat.mod_lt _ (by decide)

theorem clampPct_le (v : Nat) : clampPct v ≤ 100 := Nat.min_le_right v 100

theorem Ramp.value_le {pos : Nat} (h : pos < 256) (r : Ramp) : r.value pos ≤ 255 := by
  cases r <;> simp only [Ramp.value, chMax] <;> omega

/-- Each row of the table depends on the sector modulo 3 only (R104). -/
theorem sectorRow_eq (n : Nat) (h : n < 6) :
    sectorRow n = match n % 3 with
      | 0 => ⟨.fall, .rise, .zero⟩
      | 1 => ⟨.zero, .fall, .rise⟩
      | _ => ⟨.rise, .zero, .fall⟩ := by
  interval_cases n <;> rfl

/-- Blending a channel toward white keeps it a channel. -/
theorem blend_le {s raw : Nat} (hr : raw ≤ 255) : blend s raw ≤ 255 := by
  have h : (255 - raw) * (100 - s) / 100 ≤ 255 - raw :=
    Nat.div_le_of_le_mul (by rw [Nat.mul_comm]; exact Nat.mul_le_mul_right _ (by omega))
  simp only [blend, chMax, pctMax]; omega

/-- Scaling never raises a channel. -/
theorem scale_le {v w : Nat} (hv : v ≤ 100) : scale v w ≤ w :=
  Nat.div_le_of_le_mul (by rw [Nat.mul_comm]; exact Nat.mul_le_mul_right _ hv)

/-- What SEQ_CONV and CONV write: the three channels narrowed to 8 bits. -/
theorem showColour_eq (s : State) (hue sat val : Nat) :
    s.showColour hue sat val = s.writeColour (BitVec.ofNat 8 (convert hue sat val).red)
      (BitVec.ofNat 8 (convert hue sat val).green) (BitVec.ofNat 8 (convert hue sat val).blue) := rfl

end Sys2Proof.Machine
end

