-- ==== Sys2Proof/Laws/Decode.lean ====
section
/-! SUPPORT. Small lemmas about the fields of a word, the decoder's cases and the command table's numbering. -/

namespace Sys2Proof

/-- The field `n` bits wide from bit `k` of a word, as arithmetic. -/
theorem field_toNat (w : Word) (k n : Nat) : (w.extractLsb' k n).toNat = w.toNat / 2 ^ k % 2 ^ n := by
  simp [BitVec.extractLsb'_toNat, Nat.shiftRight_eq_div_pow]

/-- Concatenation, `a` in the high bits (R9), as arithmetic. -/
theorem append_toNat {m n : Nat} (a : BitVec m) (b : BitVec n) : (a ++ b).toNat = a.toNat * 2 ^ n + b.toNat := by
  rw [BitVec.toNat_append, ← Nat.shiftLeft_add_eq_or_of_lt b.isLt, Nat.shiftLeft_eq]

theorem opField_toNat (w : Word) : (opField w).toNat = w.toNat / 2 ^ 28 := by
  have h := w.isLt
  rw [opField, field_toNat]; omega

theorem rdField_toNat (w : Word) : (rdField w).toNat = w.toNat / 2 ^ 24 % 16 := field_toNat w 24 4

theorem zeroField_toNat (w : Word) : (zeroField w).toNat = w.toNat / 2 ^ 16 % 256 := field_toNat w 16 8

theorem immField_toNat (w : Word) : (immField w).toNat = w.toNat % 65536 := by
  rw [immField, field_toNat]; omega

/-- A word is its four fields (R71). -/
theorem word_toNat_eq_fields (w : Word) :
    w.toNat = (opField w).toNat * 2 ^ 28 + (rdField w).toNat * 2 ^ 24 + (zeroField w).toNat * 2 ^ 16 +
      (immField w).toNat := by
  rw [opField_toNat, rdField_toNat, zeroField_toNat, immField_toNat]; omega

/-- A field-free command is legal exactly with `rd` and `imm` zero. -/
theorem decodePlain_eq_ok {w : Word} {i j : Instr} :
    decodePlain w i = .ok j ↔ j = i ∧ rdField w = 0 ∧ immField w = 0 := by
  unfold decodePlain
  split <;> simp_all [eq_comm]

/-- On 32 bits the opcode table's numbering is the word's own. -/
theorem tableWord_toNat (w : Word) : tableWord 32 w.toNat = w := by
  apply BitVec.eq_of_toNat_eq
  have h := w.isLt
  simp only [tableWord, BitVec.toNat_ofNat]; omega

end Sys2Proof
end

