-- ==== Sys2Proof/Laws/Ops.lean ====
section
/-! SUPPORT. One lemma per shared operation, saying what it does. -/

namespace Sys2Proof.Machine

/-- Reading an operand register after a write: the value written, or the old one elsewhere. -/
theorem readX_writeX (s : State) (i j : Fin 7) (v : Half) :
    (s.writeX i v).readX j = if i = j then v else s.readX j := by
  have h : (s.x.set i v)[j] = if i.val = j.val then v else s.x[j] := Vector.getElem_set ..
  simpa [State.readX, State.writeX, Fin.ext_iff] using h

/-- The second of two writes of one operand register is kept (R90 corner case b). -/
theorem writeX_writeX (s : State) (i : Fin 7) (v w : Half) : (s.writeX i v).writeX i w = s.writeX i w := by
  simp [State.writeX]

/-- Which level changes TRIG_EDGE selects (R199). -/
theorem isTriggerEdge_iff (e : TrigEdge) (old new : Bool) :
    isTriggerEdge e old new = true ↔
      (e ≠ .falling ∧ old = false ∧ new = true) ∨ (e ≠ .rising ∧ old = true ∧ new = false) := by
  cases e <;> cases old <;> cases new <;> decide

/-- A selected edge runs the trigger step, in this step. -/
theorem senseProx_of_edge {p : Params} {v : Bool} {s : State} (h : isTriggerEdge p.trigEdge s.prox v = true) :
    senseProx p v s = (trigger p s).setProx v := if_pos h

/-- Any other level change writes the level only. -/
theorem senseProx_of_not_edge {p : Params} {v : Bool} {s : State}
    (h : isTriggerEdge p.trigEdge s.prox v = false) : senseProx p v s = s.setProx v := by
  simp [senseProx, h]

/-- A level change writes nothing but the animation state and the level. -/
theorem senseProx_frame (p : Params) (v : Bool) (s : State) :
    senseProx p v s = (s.writeAnimation (senseProx p v s).curHue (senseProx p v s).level).setProx v := by
  unfold senseProx
  split <;> rfl

/-- LDI's field names a register exactly when it is below 7. -/
theorem operandIndex_eq_some {rd : BitVec 4} (h : rd.toNat < 7) : operandIndex rd = some ⟨rd.toNat, h⟩ :=
  dif_pos h

theorem operandIndex_eq_none {rd : BitVec 4} (h : 7 ≤ rd.toNat) : operandIndex rd = none :=
  dif_neg (by omega)

/-- No precondition is broken exactly within the contract of R120. -/
theorem interpolateViolation_eq_none {a b n k : Nat} :
    interpolateViolation a b n k = none ↔ n ≠ 0 ∧ a < hueMax ∧ b < hueMax ∧ k ≤ n := by
  unfold interpolateViolation
  split
  · simp_all
  · split
    · simp_all; omega
    · split <;> simp_all

/-- What INTP's checks answer when one fails (R121). -/
theorem interpolateViolation_cases {a b n k : Nat} {c : Cause} (h : interpolateViolation a b n k = some c) :
    (c = .divZero ∧ n = 0) ∨ (c = .hueRange ∧ n ≠ 0 ∧ (hueMax ≤ a ∨ hueMax ≤ b)) ∨
      (c = .stepRange ∧ n ≠ 0 ∧ a < hueMax ∧ b < hueMax ∧ n < k) := by
  unfold interpolateViolation at h
  split at h
  · simp_all
  · split at h
    · simp_all
    · split at h <;> simp_all

end Sys2Proof.Machine
end

