-- ==== Sys2Proof/Laws/Interpolate.lean ====
section
/-! SUPPORT. The interpolator's pieces: ranges, and what INTP can do. -/

namespace Sys2Proof.Machine

theorem linDistance_cases (a b : Nat) :
    (a ≤ b ∧ linDistance a b = b - a) ∨ (b < a ∧ linDistance a b = a - b) := by
  unfold linDistance; omega

theorem arcDistance_le (a b : Nat) : arcDistance a b ≤ 768 := by
  unfold arcDistance
  split
  · assumption
  · simp only [hueMax, halfTurn] at *; omega

/-- The four cells of the decision table (R123). -/
theorem direction_eq (a b : Nat) :
    direction a b = if a ≤ b then (if linDistance a b ≤ halfTurn then .forward else .backward)
      else (if linDistance a b ≤ halfTurn then .backward else .forward) := by
  unfold direction
  by_cases h : a ≤ b <;> by_cases hl : linDistance a b ≤ halfTurn <;> simp [h, hl]

/-- `off` never exceeds the arc within the contract (R124). -/
theorem travelled_le {arc n k : Nat} (hk : k ≤ n) : travelled arc n k ≤ arc :=
  Nat.div_le_of_le_mul (by rw [Nat.mul_comm n]; exact Nat.mul_le_mul_left arc hk)

theorem normaliseHue_lt (t : Int) : normaliseHue t < 1536 := by
  simp only [normaliseHue, hueMax]; omega

/-- INTP writes HQ only, or raises a fault of R121. -/
theorem execIntp_cases (s : State) :
    (∃ c, interpolateViolation (s.operand .istart) (s.operand .istop) (s.operand .itotal) (s.operand .istep) = some c ∧
      execIntp s = .next (raiseFault c s)) ∨
    (interpolateViolation (s.operand .istart) (s.operand .istop) (s.operand .itotal) (s.operand .istep) = none ∧
      execIntp s = .next (s.writeHq (BitVec.ofNat 16
        (interpolate (s.operand .istart) (s.operand .istop) (s.operand .itotal) (s.operand .istep))))) := by
  unfold execIntp
  split
  · exact .inl ⟨_, by assumption, rfl⟩
  · exact .inr ⟨by assumption, rfl⟩

end Sys2Proof.Machine
end

