-- ==== Sys2Proof/Laws/PerInstr.lean ====
section
/-! SUPPORT. Facts about every command as syntax, one lemma per constructor. -/

namespace Sys2Proof.Laws.EncodeFields

/-- The `rd` field of a command's word (R71: used by LDI only). -/
def rdOf : Instr → BitVec 4
  | .ldi rd _ => rd
  | .conv => 0
  | .intp => 0
  | .frame => 0
  | .run => 0

/-- The `imm` field of a command's word (R71: used by LDI only). -/
def immOf : Instr → Half
  | .ldi _ imm => imm
  | .conv => 0
  | .intp => 0
  | .frame => 0
  | .run => 0

/-- The four fields of a command's word are the command's (R71, R73). -/
def Statement (i : Instr) : Prop :=
  opField (encode i) = opcode i ∧ rdField (encode i) = rdOf i ∧ zeroField (encode i) = 0 ∧
    immField (encode i) = immOf i

/-- LDI's word as a number (R90). -/
theorem ldi_toNat (rd : BitVec 4) (imm : Half) :
    (encode (.ldi rd imm)).toNat = 268435456 + rd.toNat * 16777216 + imm.toNat := by
  have e : encode (.ldi rd imm) = 1#4 ++ rd ++ 0#8 ++ imm := rfl
  rw [e, append_toNat, append_toNat, append_toNat, BitVec.toNat_ofNat, BitVec.toNat_ofNat]
  omega

theorem ldi (rd : BitVec 4) (imm : Half) : Statement (.ldi rd imm) := by
  have hr := rd.isLt
  have hi := imm.isLt
  refine ⟨?_, ?_, ?_, ?_⟩ <;> apply BitVec.eq_of_toNat_eq
  · rw [opField_toNat, ldi_toNat, opcode, show (1 : BitVec 4).toNat = 1 from rfl]; omega
  · rw [rdField_toNat, ldi_toNat, rdOf]; omega
  · rw [zeroField_toNat, ldi_toNat, show (0 : Byte).toNat = 0 from rfl]; omega
  · rw [immField_toNat, ldi_toNat, immOf]; omega

theorem conv : Statement .conv := by unfold Statement; decide

theorem intp : Statement .intp := by unfold Statement; decide

theorem frame : Statement .frame := by unfold Statement; decide

theorem run : Statement .run := by unfold Statement; decide

end Sys2Proof.Laws.EncodeFields
end

