-- ==== Sys2Proof/Laws/Pwm.lean ====
section
/-! SUPPORT. What a sub-tick step can do, in three cases. -/

namespace Sys2Proof.Machine

variable {s : State}

@[simp] theorem lineOn_iff (t c : Byte) : lineOn t c = true ↔ t.toNat < c.toNat := by simp [lineOn]

@[simp] theorem compareLines_x : s.compareLines.x = s.x := rfl
@[simp] theorem compareLines_r : s.compareLines.r = s.r := rfl
@[simp] theorem compareLines_g : s.compareLines.g = s.g := rfl
@[simp] theorem compareLines_b : s.compareLines.b = s.b := rfl
@[simp] theorem compareLines_hq : s.compareLines.hq = s.hq := rfl
@[simp] theorem compareLines_curHue : s.compareLines.curHue = s.curHue := rfl
@[simp] theorem compareLines_level : s.compareLines.level = s.level := rfl
@[simp] theorem compareLines_pos : s.compareLines.pos = s.pos := rfl
@[simp] theorem compareLines_tick : s.compareLines.tick = s.tick := rfl
@[simp] theorem compareLines_framesLeft : s.compareLines.framesLeft = s.framesLeft := rfl
@[simp] theorem compareLines_cause : s.compareLines.cause = s.cause := rfl
@[simp] theorem compareLines_lineR : s.compareLines.lineR = lineOn s.tick s.r := rfl
@[simp] theorem compareLines_lineG : s.compareLines.lineG = lineOn s.tick s.g := rfl
@[simp] theorem compareLines_lineB : s.compareLines.lineB = lineOn s.tick s.b := rfl
@[simp] theorem compareLines_prox : s.compareLines.prox = s.prox := rfl
@[simp] theorem compareLines_host : s.compareLines.host = s.host := rfl
@[simp] theorem compareLines_moves : s.compareLines.moves = s.moves := rfl

/-- Inside a frame. -/
theorem subTick_of_lt (h : s.tick.toNat < 254) : subTick s = .next (s.compareLines.setTick (s.tick + 1)) :=
  if_pos h

/-- At the end of a frame. -/
theorem subTick_of_last (h : ¬ s.tick.toNat < 254) : subTick s = endFrame s.compareLines := if_neg h

/-- The end of a frame with frames left: the counters are written, and POS at the last frame. -/
theorem endFrame_of_ne_zero (h : s.framesLeft ≠ 0) :
    endFrame s = .next (s.startFrames (s.framesLeft - 1) (if s.framesLeft = 1 then afterFrames s.pos else s.pos)) :=
  if_neg h

/-- Everything a sub-tick step that goes on can do. -/
theorem subTick_cases {t : State} (h : subTick s = .next t) :
    (s.tick.toNat < 254 ∧ t = s.compareLines.setTick (s.tick + 1)) ∨
    (254 ≤ s.tick.toNat ∧ s.framesLeft ≠ 0 ∧
      t = s.compareLines.startFrames (s.framesLeft - 1)
        (if s.framesLeft = 1 then afterFrames s.pos else s.pos)) := by
  by_cases ht : s.tick.toNat < 254
  · rw [subTick_of_lt ht] at h
    cases h; exact .inl ⟨ht, rfl⟩
  · rw [subTick_of_last ht] at h
    by_cases hf : s.framesLeft = 0
    · simp [endFrame, State.compareLines, hf] at h
    · rw [endFrame_of_ne_zero (s := s.compareLines) hf] at h
      cases h; exact .inr ⟨by omega, hf, rfl⟩

/-- A sub-tick step writes the lines, the counters and POS only. -/
theorem subTick_frame {t : State} (h : subTick s = .next t) :
    t = ((s.driveLines t.lineR t.lineG t.lineB).startFrames t.framesLeft t.pos).setTick t.tick ∧
      (t.pos = s.pos ∨ t.pos = afterFrames s.pos) := by
  rcases subTick_cases h with ⟨-, rfl⟩ | ⟨-, -, rfl⟩
  · exact ⟨rfl, .inl rfl⟩
  · refine ⟨rfl, ?_⟩
    simp only [startFrames_pos]
    split <;> simp

/-- A sub-tick step stops exactly at the end of a frame with no frame left. -/
theorem subTick_fault {f : Fault} (h : subTick s = .fault f) :
    f = .noFrameLeft ∧ 254 ≤ s.tick.toNat ∧ s.framesLeft = 0 := by
  by_cases ht : s.tick.toNat < 254
  · rw [subTick_of_lt ht] at h; cases h
  · rw [subTick_of_last ht] at h
    by_cases hf : s.framesLeft = 0
    · simp only [endFrame, State.compareLines, driveLines_framesLeft, hf, if_true] at h
      cases h; exact ⟨rfl, by omega, hf⟩
    · rw [endFrame_of_ne_zero (s := s.compareLines) hf] at h; cases h

end Sys2Proof.Machine
end

