-- ==== Sys2Proof/Laws/Sequencer.lean ====
section
/-! SUPPORT. What SEQ_CONV can do, and the two branches of SEQ_ADV. -/

namespace Sys2Proof.Machine

/-- Everything SEQ_CONV can do (R163). -/
theorem seqConv_cases (p : Params) (s : State) :
    (s.level = 0 ∧ seqConv p s = .fault .levelZero) ∨
    (s.level ≠ 0 ∧ seqConv p s = .next ((s.showColour s.curHue.toNat p.seqSat.toNat (p.seqVal s.level).toNat).startFrames
      (BitVec.ofNat 8 (p.maxLevel / s.level.toNat)) .seqFrame)) := by
  by_cases h : s.level = 0
  · exact .inl ⟨h, if_pos h⟩
  · exact .inr ⟨h, if_neg h⟩

/-- SEQ_CONV writes the colour, the counters and POS only. -/
theorem seqConv_frame {p : Params} {s t : State} (h : seqConv p s = .next t) :
    t = (s.writeColour t.r t.g t.b).startFrames t.framesLeft .seqFrame := by
  rcases seqConv_cases p s with ⟨-, h'⟩ | ⟨-, h'⟩ <;> rw [h'] at h <;> cases h
  rfl

/-- Below the top of the sweep. -/
theorem advancePair_of_lt {p : Params} {h l : Nat} (hh : h + p.hueStep < 1536) :
    advancePair p (h, l) = (h + p.hueStep, l) := if_pos hh

/-- At the top of the sweep. -/
theorem advancePair_of_ge {p : Params} {h l : Nat} (hh : ¬ h + p.hueStep < 1536) :
    advancePair p (h, l) = (0, min (l + p.iteStep) p.maxLevel) := if_neg hh

end Sys2Proof.Machine
end

