-- ==== Sys2Proof/Laws/Step.lean ====
section
/-! SUPPORT. The step by whose turn it is, and runs of steps. The provers cite these instead of unfolding `step`. -/

namespace Sys2Proof.Machine

variable {s : State}

/-! ### Whose turn -/

@[simp] theorem nextMove_of_nil (h : s.moves = []) : s.nextMove = .core := by simp [State.nextMove, h]

@[simp] theorem nextMove_of_cons {m : Move} {ms : List Move} (h : s.moves = m :: ms) : s.nextMove = m := by
  simp [State.nextMove, h]

theorem step_of_core (h : s.nextMove = .core) : step s = coreStep Config.params s.popMove := by
  simp [step, stepWith, h]

theorem step_of_prox {v : Bool} (h : s.nextMove = .prox v) :
    step s = .next (senseProx Config.params v s.popMove) := by
  simp [step, stepWith, h]

theorem step_of_rst (h : s.nextMove = .rst) : step s = .next (hardwareReset Config.params s.popMove) := by
  simp [step, stepWith, h]

/-! ### The core's turn, by position -/

theorem coreStep_idle {p : Params} (h : s.pos = .idle) : coreStep p s = acceptCommand s := by simp [coreStep, h]

theorem coreStep_frame {p : Params} (h : s.pos = .frame) : coreStep p s = subTick s := by simp [coreStep, h]

theorem coreStep_seqConv {p : Params} (h : s.pos = .seqConv) : coreStep p s = seqConv p s := by simp [coreStep, h]

theorem coreStep_seqFrame {p : Params} (h : s.pos = .seqFrame) : coreStep p s = subTick s := by simp [coreStep, h]

theorem coreStep_seqAdv {p : Params} (h : s.pos = .seqAdv) : coreStep p s = .next (seqAdv p s) := by
  simp [coreStep, h]

theorem coreStep_halt {p : Params} (h : s.pos = .halt) : coreStep p s = .next s := by simp [coreStep, h]

/-! ### Acceptance -/

theorem acceptCommand_nil (h : s.host = []) : acceptCommand s = .next s := by simp [acceptCommand, h]

theorem acceptCommand_ok {w : Word} {ws : List Word} {i : Instr} (h : s.host = w :: ws) (hd : decode w = .ok i) :
    acceptCommand s = exec i (s.setHost ws) := by simp [acceptCommand, h, hd]

theorem acceptCommand_error {w : Word} {ws : List Word} {e : Reject} (h : s.host = w :: ws)
    (hd : decode w = .error e) : acceptCommand s = .next (raiseFault .illegalCmd (s.setHost ws)) := by
  simp [acceptCommand, h, hd]

/-- Every command answers a next state. -/
theorem exec_eq_next (i : Instr) (s : State) : ∃ t, exec i s = .next t := by
  cases i with
  | ldi rd imm =>
    simp only [exec, execLdi]
    cases operandIndex rd <;> exact ⟨_, rfl⟩
  | conv => exact ⟨_, rfl⟩
  | intp => rcases execIntp_cases s with ⟨c, -, h⟩ | ⟨-, h⟩ <;> exact ⟨_, h⟩
  | frame => exact ⟨_, rfl⟩
  | run => exact ⟨_, rfl⟩

/-- Everything a command can do: one kind of write, or a fault. -/
theorem exec_cases {i : Instr} {t : State} (h : exec i s = .next t) :
    (∃ rd imm j, i = .ldi rd imm ∧ operandIndex rd = some j ∧ t = s.writeX j imm) ∨
    (∃ rd imm, i = .ldi rd imm ∧ operandIndex rd = none ∧ t = raiseFault .illegalCmd s) ∨
    (i = .conv ∧ t = s.showColour (s.operand .hue) (s.operand .sat) (s.operand .val)) ∨
    (i = .intp ∧ ∃ c,
      interpolateViolation (s.operand .istart) (s.operand .istop) (s.operand .itotal) (s.operand .istep) = some c ∧
      t = raiseFault c s) ∨
    (i = .intp ∧
      interpolateViolation (s.operand .istart) (s.operand .istop) (s.operand .itotal) (s.operand .istep) = none ∧
      t = s.writeHq (BitVec.ofNat 16
        (interpolate (s.operand .istart) (s.operand .istop) (s.operand .itotal) (s.operand .istep)))) ∨
    (i = .frame ∧ t = s.startFrames 1 .frame) ∨
    (i = .run ∧ t = s.setPos .seqConv) := by
  cases i with
  | ldi rd imm =>
    cases ho : operandIndex rd with
    | some j =>
      have h' : (.next (s.writeX j imm) : Result) = .next t := by simpa only [exec, execLdi, ho] using h
      cases h'; exact .inl ⟨rd, imm, j, rfl, ho, rfl⟩
    | none =>
      have h' : (.next (raiseFault .illegalCmd s) : Result) = .next t := by simpa only [exec, execLdi, ho] using h
      cases h'; exact .inr (.inl ⟨rd, imm, rfl, ho, rfl⟩)
  | conv => cases h; exact .inr (.inr (.inl ⟨rfl, rfl⟩))
  | intp =>
    rcases execIntp_cases s with ⟨c, hv, he⟩ | ⟨hv, he⟩
    · rw [exec, he] at h; cases h; exact .inr (.inr (.inr (.inl ⟨rfl, c, hv, rfl⟩)))
    · rw [exec, he] at h; cases h; exact .inr (.inr (.inr (.inr (.inl ⟨rfl, hv, rfl⟩))))
  | frame => cases h; simp
  | run => cases h; simp

/-- Everything a step that goes on can do, by the agent whose turn it is. -/
theorem step_cases {t : State} (h : step s = .next t) :
    (s.nextMove = .rst ∧ t = hardwareReset Config.params s.popMove) ∨
    (∃ v, s.nextMove = .prox v ∧ t = senseProx Config.params v s.popMove) ∨
    (s.nextMove = .core ∧
      (((s.pos = .halt ∨ (s.pos = .idle ∧ s.host = [])) ∧ t = s.popMove) ∨
       (s.pos = .idle ∧ ∃ w ws i, s.host = w :: ws ∧ decode w = .ok i ∧ exec i (s.popMove.setHost ws) = .next t) ∨
       (s.pos = .idle ∧ ∃ w ws e, s.host = w :: ws ∧ decode w = .error e ∧
          t = raiseFault .illegalCmd (s.popMove.setHost ws)) ∨
       ((s.pos = .frame ∨ s.pos = .seqFrame) ∧ subTick s.popMove = .next t) ∨
       (s.pos = .seqConv ∧ seqConv Config.params s.popMove = .next t) ∨
       (s.pos = .seqAdv ∧ t = seqAdv Config.params s.popMove))) := by
  cases hm : s.nextMove with
  | rst => rw [step_of_rst hm] at h; cases h; exact .inl ⟨rfl, rfl⟩
  | prox v => rw [step_of_prox hm] at h; cases h; exact .inr (.inl ⟨v, rfl, rfl⟩)
  | core =>
    rw [step_of_core hm] at h
    refine .inr (.inr ⟨rfl, ?_⟩)
    cases hp : s.pos with
    | idle =>
      rw [coreStep_idle (s := s.popMove) hp] at h
      cases hh : s.host with
      | nil => rw [acceptCommand_nil (s := s.popMove) hh] at h; cases h; simp
      | cons w ws =>
        cases hd : decode w with
        | ok i => rw [acceptCommand_ok (s := s.popMove) hh hd] at h; exact .inr (.inl ⟨rfl, w, ws, i, rfl, hd, h⟩)
        | error e =>
          rw [acceptCommand_error (s := s.popMove) hh hd] at h; cases h
          exact .inr (.inr (.inl ⟨rfl, w, ws, e, rfl, hd, rfl⟩))
    | frame => rw [coreStep_frame (s := s.popMove) hp] at h; simp [h]
    | seqFrame => rw [coreStep_seqFrame (s := s.popMove) hp] at h; simp [h]
    | halt => rw [coreStep_halt (s := s.popMove) hp] at h; cases h; simp
    | seqConv => rw [coreStep_seqConv (s := s.popMove) hp] at h; simp [h]
    | seqAdv => rw [coreStep_seqAdv (s := s.popMove) hp] at h; cases h; simp

/-! ### Runs -/

/-- One step of any machine, then the rest of the run. -/
theorem run_succ (M : Host.Core) (k : Nat) (s : M.State) :
    (∀ t, M.step s = .next t → M.run (k + 1) s = M.run k t) ∧
    (∀ f, M.step s = .fault f → M.run (k + 1) s = .fault f) ∧
    (∀ r, M.step s = .refused r → M.run (k + 1) s = .refused r) :=
  ⟨fun t h => by simp only [Host.Core.run, h], fun f h => by simp only [Host.Core.run, h],
    fun r h => by simp only [Host.Core.run, h]⟩

@[simp] theorem runSteps_zero (s : State) : runSteps 0 s = .next s := rfl

theorem runSteps_succ_of_next {t : State} (k : Nat) (h : step s = .next t) : runSteps (k + 1) s = runSteps k t :=
  (run_succ core k s).1 t h

theorem runSteps_succ_of_fault {f : Fault} (k : Nat) (h : step s = .fault f) : runSteps (k + 1) s = .fault f :=
  (run_succ core k s).2.1 f h

theorem runSteps_succ_of_refused {r : Refusal} (k : Nat) (h : step s = .refused r) :
    runSteps (k + 1) s = .refused r := (run_succ core k s).2.2 r h

theorem runSteps_one (s : State) : runSteps 1 s = step s := by
  cases h : step s with
  | next t => exact runSteps_succ_of_next 0 h
  | fault f => exact runSteps_succ_of_fault 0 h
  | refused r => exact runSteps_succ_of_refused 0 h

/-- A run of `m` steps followed by a run of `n`. -/
theorem runSteps_add {t : State} {m : Nat} (n : Nat) (h : runSteps m s = .next t) :
    runSteps (m + n) s = runSteps n t := by
  induction m generalizing s with
  | zero => cases h; rw [Nat.zero_add]
  | succ m ih =>
    rw [Nat.succ_add]
    cases hs : step s with
    | next u =>
      rw [runSteps_succ_of_next _ hs] at h ⊢
      exact ih h
    | fault f => rw [runSteps_succ_of_fault _ hs] at h; cases h
    | refused r => rw [runSteps_succ_of_refused _ hs] at h; cases h

end Sys2Proof.Machine
end

