-- ==== Sys2Proof/Tests/Slice0.lean ====
section
/-! SUPPORT. Tests. Expected values are those of spec/ (the place is named beside each group), never the model's own. The
witnesses at the end show that the hypotheses of the statements can be met together. -/

namespace Sys2Proof.Tests

open Sys2Proof.Machine

/-! ### WellFormed: LDI's register (R78) -/

theorem test_wellFormed_refuses_ldi_x7 : (Instr.ldi 7 0).WellFormed = false := by decide
theorem test_wellFormed_refuses_ldi_x15 : (Instr.ldi 15 0xFFFF).WellFormed = false := by decide
theorem test_wellFormed_accepts_ldi_x6 : (Instr.ldi 6 0xFFFF).WellFormed = true := by decide

/-! ### Words bit by bit (R73 patterns; R80 and 95_test_vectors.md 2.2) -/

theorem test_decode_ldi_hue_300 : decode 0b00010000000000000000000100101100#32 = .ok (.ldi 0 300) := by decide
theorem test_decode_ldi_x6_ffff : decode 0b00010110000000001111111111111111#32 = .ok (.ldi 6 0xFFFF) := by decide
theorem test_decode_conv : decode 0b00100000000000000000000000000000#32 = .ok .conv := by decide
theorem test_decode_intp : decode 0b00110000000000000000000000000000#32 = .ok .intp := by decide
theorem test_decode_frame : decode 0b01000000000000000000000000000000#32 = .ok .frame := by decide
theorem test_decode_run : decode 0b01010000000000000000000000000000#32 = .ok .run := by decide
theorem test_decode_rejects_x7 : decode 0x17000000#32 = .error .noSuchRegister := by decide
theorem test_decode_rejects_zero_field : decode 0x10010000#32 = .error .zeroFieldSet := by decide
theorem test_decode_rejects_all_zero : decode 0x00000000#32 = .error .noSuchOp := by decide
theorem test_decode_rejects_op_6 : decode 0x60000000#32 = .error .noSuchOp := by decide
theorem test_decode_rejects_conv_imm : decode 0x20000001#32 = .error .strayOperand := by decide
theorem test_decode_rejects_conv_rd : decode 0x21000000#32 = .error .strayOperand := by decide
theorem test_encode_ldi : encode (.ldi 0 300) = 0x1000012C#32 := by decide
theorem test_encode_run : encode .run = 0x50000000#32 := by decide
theorem test_decodeTableWord_intp : decodeTableWord 32 805306368 = some .intp := by decide

/-! ### A small machine: the parameters of program P4 (95_test_vectors.md) -/

/-- MIN_LEVEL = 1, MAX_LEVEL = 4, ITE_STEP = 2, HUE_STEP = 512, SEQ_SAT = SEQ_VAL = 100. -/
def p4 : Params := ⟨1, 4, 2, 512, 100, fun _ => 100, .rising, 1⟩

/-- The reset state of P4's machine with operands loaded. -/
def loaded (x : Vector Half 7) : State := { State.resetWith p4 with x := x }

/-- P4's machine with an animation state and a position. -/
def anim (h : Half) (l : Byte) (q : Pos) : State := { State.resetWith p4 with curHue := h, level := l, pos := q }

/-- A check of the next state. -/
def nextIs (r : Result) (f : State → Bool) : Bool :=
  match r with
  | .next t => f t
  | .fault _ => false
  | .refused _ => false

theorem test_p4_valid : p4.Valid := by constructor <;> decide

/-! ### Commands (95_test_vectors.md 2.1, 2.4, 2.6, 2.7, 2.8; P5 for RUN's first step) -/

theorem test_ldi_stores_unclamped :
    nextIs (exec (.ldi 1 200) (State.resetWith p4)) (fun t => t.x = #v[0, 200, 0, 0, 0, 0, 0]) = true := by decide

theorem test_conv_300_50_80 :
    nextIs (exec .conv (loaded #v[300, 50, 80, 0, 0, 0, 0])) (fun t => (t.r, t.g, t.b) = (101, 186, 119)) = true := by
  decide

theorem test_conv_65535_clamped :
    nextIs (exec .conv (loaded #v[65535, 200, 255, 0, 0, 0, 0])) (fun t => (t.r, t.g, t.b) = (0, 255, 0)) = true := by
  decide

theorem test_intp_wraps_backward :
    nextIs (exec .intp (loaded #v[0, 0, 0, 100, 1400, 10, 5])) (fun t => t.hq = 1518 ∧ t.pos = .idle) = true := by
  decide

theorem test_intp_hue_range_before_step_range :
    nextIs (exec .intp (loaded #v[0, 0, 0, 10, 65535, 10, 11]))
      (fun t => t.cause = .hueRange ∧ t.pos = .halt ∧ t.status = 0x1C ∧ t.hq = 0) = true := by decide

theorem test_frame_starts :
    nextIs (exec .frame (State.resetWith p4))
      (fun t => t.pos = .frame ∧ t.tick = 0 ∧ t.framesLeft = 1 ∧ t.status = 0x01) = true := by decide

theorem test_run_enters : nextIs (exec .run (State.resetWith p4)) (fun t => t.pos = .seqConv ∧ t.status = 0x03) = true := by
  decide

/-! ### The functions (95_test_vectors.md 2.3 to 2.6) -/

theorem test_convert_128_37_63 : convert 128 37 63 = ⟨130, 131, 100⟩ := by decide
theorem test_convert_1518_50_80 : convert 1518 50 80 = ⟨196, 101, 108⟩ := by decide
theorem test_convert_1000_full : convert 1000 100 100 = ⟨23, 232, 0⟩ := by decide
theorem test_interpolate_tie_backward : interpolate 768 0 4 1 = 576 := by decide
theorem test_interpolate_forward_through_0 : interpolate 1400 100 10 6 = 5 := by decide
theorem test_interpolate_backward_through_0 : interpolate 0 769 4 1 = 1345 := by decide
theorem test_interpolate_truncates_toward_start : interpolate 500 200 7 1 = 458 := by decide
theorem test_interpolate_26_bit_product : interpolate 0 768 65535 32768 = 384 := by decide

/-! ### The core's own steps (2.8, 2.9, 2.10, P4, P5) -/

theorem test_subTick_compares_strictly :
    nextIs (stepWith p4 { anim 0 1 .frame with r := 1, g := 128, b := 254, tick := 127, framesLeft := 1 })
      (fun t => (t.lineR, t.lineG, t.lineB) = (false, true, true) ∧ t.tick = 128 ∧ t.pos = .frame) = true := by decide

theorem test_subTick_ends_the_last_frame :
    nextIs (stepWith p4 { anim 512 3 .seqFrame with b := 255, tick := 254, framesLeft := 1 })
      (fun t => (t.lineR, t.lineG, t.lineB) = (false, false, true) ∧ t.tick = 0 ∧ t.framesLeft = 0 ∧ t.pos = .seqAdv) =
      true := by decide

theorem test_seqConv_512 :
    nextIs (stepWith p4 (anim 512 1 .seqConv))
      (fun t => (t.r, t.g, t.b) = (0, 0, 255) ∧ t.framesLeft = 4 ∧ t.pos = .seqFrame) = true := by decide

theorem test_seqAdv_wraps_and_clamps :
    nextIs (stepWith p4 (anim 1024 3 .seqAdv)) (fun t => t.curHue = 0 ∧ t.level = 4 ∧ t.pos = .seqConv) = true := by
  decide

theorem test_seqAdv_no_remainder :
    nextIs (stepWith { p4 with hueStep := 500 } (anim 1500 1 .seqAdv)) (fun t => t.curHue = 0) = true := by decide

theorem test_trigger_in_a_frame :
    nextIs (stepWith p4 { anim 1024 3 .seqFrame with tick := 77, framesLeft := 1, moves := [.prox true] })
      (fun t => t.curHue = 0 ∧ t.level = 1 ∧ t.pos = .seqFrame ∧ t.tick = 77 ∧ t.framesLeft = 1) = true := by decide

theorem test_other_edge_is_no_trigger :
    nextIs (stepWith p4 { anim 1024 3 .seqAdv with prox := true, moves := [.prox false] })
      (fun t => t.curHue = 1024 ∧ t.level = 3 ∧ t.prox = false) = true := by decide

theorem test_reset_from_halt :
    nextIs (stepWith p4 { anim 1024 3 .halt with cause := .divZero, hq := 1518, moves := [.rst] })
      (fun t => t = State.resetWith p4) = true := by decide

theorem test_illegal_word_halts :
    nextIs (stepWith p4 { State.resetWith p4 with host := [0x1F00FFFF] })
      (fun t => t.cause = .illegalCmd ∧ t.pos = .halt ∧ t.status = 0x0C ∧ t.cmdReady = false) = true := by decide

theorem test_halt_takes_no_command :
    nextIs (stepWith p4 { anim 0 1 .halt with cause := .divZero, host := [0x10000005] })
      (fun t => t.host = [0x10000005] ∧ t.x = #v[0, 0, 0, 0, 0, 0, 0] ∧ t.status = 0x14) = true := by decide

theorem test_withFetchWord_runs_conv :
    nextIs (step (State.reset.withFetchWord 32 0x20000000)) (fun t => t.pos = .idle ∧ t.host = [] ∧ t.r = 0) = true := by
  decide

/-! ### Text (R10, R80, R81) -/

theorem test_asm_hex_and_comment : assembleLine "ldi x6, 0xFFFF ; the last one" = some [0x1600FFFF#32] := by decide
theorem test_asm_refuses_65536 : assembleLine "LDI HUE, 65536" = none := by decide
theorem test_asm_render :
    assembleLine "RENDER 0, 100, 100" =
      some [0x10000000#32, 0x11000064#32, 0x12000064#32, 0x20000000#32, 0x40000000#32] := by decide
theorem test_listing : listingLine 0x1000012C#32 = "0x1000012C".toList := by decide

/-! ### Witnesses: states that meet the hypotheses of the statements -/

/-- The word `w` presented at IDLE after reset. -/
def offering (w : Word) : State := { State.reset with host := [w] }

theorem witness_accepts (w : Word) : Spec.Accepts (offering w) w := ⟨rfl, rfl, rfl⟩

theorem witness_StepRunsTheDecodedCommand :
    Spec.Accepts (offering 0x1600FFFF) 0x1600FFFF ∧ decode 0x1600FFFF = .ok (.ldi 6 0xFFFF) :=
  ⟨witness_accepts _, by decide⟩

theorem witness_BusyPortIgnoresCommands :
    ∃ t, ({ State.reset with pos := .frame } : State).pos ≠ .idle ∧ step { State.reset with pos := .frame } = .next t :=
  ⟨_, by decide, rfl⟩

theorem witness_WaitingChangesNothing_halt :
    ({ State.reset with pos := .halt } : State).nextMove = .core ∧ ({ State.reset with pos := .halt } : State).pos = .halt := by
  decide

theorem witness_WaitingChangesNothing_idle :
    State.reset.nextMove = .core ∧ State.reset.pos = .idle ∧ State.reset.cmdPort = none := by decide

theorem witness_WellFormed : ∀ i ∈ [Instr.ldi 0 0, .ldi 6 0xFFFF, .conv, .intp, .frame, .run], i.WellFormed = true := by
  decide

theorem witness_EncodeOfDecodeIsTheWord : decode 0x16000005#32 = .ok (.ldi 6 5) := by decide

theorem witness_LdiWritesOneOperandRegister : (0 : BitVec 4).toNat ≤ 6 ∧ (6 : BitVec 4).toNat ≤ 6 := by decide

theorem witness_LdiEncodingAndIllegalRegister :
    7 ≤ (7 : BitVec 4).toNat ∧ 7 ≤ (15 : BitVec 4).toNat ∧
      Spec.Accepts (offering (encode (.ldi 7 0))) (encode (.ldi 7 0)) := ⟨by decide, by decide, witness_accepts _⟩

theorem witness_ConvertPseudoInstruction :
    let s := { State.reset with host := (Pseudo.convert 300 50 80).expand.map encode ++ [0x40000000] }
    s.pos = .idle ∧ s.moves = [] ∧ s.host = (Pseudo.convert 300 50 80).expand.map encode ++ [0x40000000] := by decide

theorem witness_RawTripleByRotation : (0 : Nat) < 1536 ∧ 1535 < 1536 ∧ sector 1535 % 3 = 2 ∧ sector 0 % 3 = 0 := by decide

theorem witness_SaturationBlend_BrightnessScale : (0 : Nat) ≤ 100 ∧ 100 ≤ 100 ∧ 0 ≤ 255 ∧ 255 ≤ 255 := by decide

theorem witness_ConvertPeriodicAndClamped : 100 ≤ 100 ∧ 100 ≤ 65535 := by decide

theorem witness_ConvertMonotone : (0 : Nat) ≤ 100 ∧ 50 ≤ 50 := by decide

theorem witness_IntpWritesInterpolatedHue_start : Spec.IntpLegal (loaded #v[0, 0, 0, 0, 1535, 1, 0]) := by
  constructor <;> decide

theorem witness_IntpWritesInterpolatedHue_end : Spec.IntpLegal (loaded #v[0, 0, 0, 1535, 0, 65535, 65535]) := by
  constructor <;> decide

theorem witness_IntpFaultsInOrder_divZero : (loaded #v[0, 0, 0, 2000, 20, 0, 5]).x[5].toNat = 0 := by decide

theorem witness_IntpFaultsInOrder_hueRange :
    (loaded #v[0, 0, 0, 1536, 20, 10, 5]).x[5].toNat ≠ 0 ∧ 1536 ≤ (loaded #v[0, 0, 0, 1536, 20, 10, 5]).x[3].toNat ∧
      1536 ≤ (loaded #v[0, 0, 0, 10, 65535, 10, 11]).x[4].toNat := by decide

theorem witness_IntpFaultsInOrder_stepRange :
    let s := loaded #v[0, 0, 0, 1535, 1535, 10, 11]
    s.x[5].toNat ≠ 0 ∧ s.x[3].toNat < 1536 ∧ s.x[4].toNat < 1536 ∧ s.x[5].toNat < s.x[6].toNat := by decide

theorem witness_ArcAndDirection :
    (0 : Nat) < 1536 ∧ 769 < 1536 ∧ 768 < linDistance 0 769 ∧ linDistance 0 768 ≤ 768 := by decide

theorem witness_Interpolate : (0 : Nat) < 1536 ∧ 1535 < 1536 ∧ 1 ≤ 3 ∧ 3 ≤ 3 ∧ 0 ≤ 3 := by decide

/-- The core's turn in a frame. -/
def inFrame (q : Pos) (t f : Byte) : State := { State.reset with pos := q, tick := t, framesLeft := f }

theorem witness_SubTickStep_inside :
    (inFrame .frame 253 1).nextMove = .core ∧ (inFrame .frame 253 1).pos = .frame ∧
      (inFrame .frame 253 1).tick.toNat < 254 := by decide

theorem witness_SubTickStep_next_frame :
    (inFrame .seqFrame 254 2).nextMove = .core ∧ (inFrame .seqFrame 254 2).pos = .seqFrame ∧
      (inFrame .seqFrame 254 2).tick.toNat = 254 ∧ 2 ≤ (inFrame .seqFrame 254 2).framesLeft.toNat := by decide

theorem witness_SubTickStep_last :
    (inFrame .frame 254 1).nextMove = .core ∧ (inFrame .frame 254 1).pos = .frame ∧
      (inFrame .frame 254 1).tick.toNat = 254 ∧ (inFrame .frame 254 1).framesLeft.toNat = 1 := by decide

theorem witness_FrameIs255SubTicks :
    (offering (encode .frame)).pos = .idle ∧ (offering (encode .frame)).moves = [] ∧
      (offering (encode .frame)).host = encode .frame :: [] := by decide

/-- The level after reset is MIN_LEVEL. -/
theorem reset_level_toNat : State.reset.level.toNat = Config.params.minLevel := by
  have h := maxLevel_le_255
  have h' := minLevel_le_maxLevel
  change (BitVec.ofNat 8 Config.params.minLevel).toNat = _
  rw [BitVec.toNat_ofNat]; omega

/-- The reset state's animation, at another position, with inputs pending. -/
def at_ (q : Pos) (ms : List Move) : State := { State.reset with pos := q, moves := ms }

theorem at_animation (q : Pos) (ms : List Move) : AnimationInRange Config.params (at_ q ms) where
  hue_lt := by change (0 : Half).toNat < hueMax; decide
  minLevel_le := Nat.le_of_eq reset_level_toNat.symm
  le_maxLevel := by
    have h : (at_ q ms).level.toNat = Config.params.minLevel := reset_level_toNat
    rw [h]; exact minLevel_le_maxLevel

theorem inv_seqConv : Inv Config.params (at_ .seqConv []) where
  animation := at_animation _ _
  initial h := by cases h
  tick_lt := by change (0 : Byte).toNat < subticks; decide
  tick_rest _ := rfl
  frames_rest _ := rfl
  frames_frame h := by cases h
  frames_seq h := by cases h
  cause_halt := ⟨fun _ h => (by cases h), fun _ => rfl⟩
  hq_lt := by change (0 : Half).toNat < hueMax; decide

theorem witness_Inv_seqConv : Inv Config.params (at_ .seqConv []) ∧ (at_ .seqConv []).pos = .seqConv ∧
    (at_ .seqConv []).moves = [] ∧ (at_ .seqConv []).curHue = 0 := ⟨inv_seqConv, rfl, rfl, rfl⟩

theorem witness_SequencerRunsForEver :
    Inv Config.params (at_ .seqConv []) ∧ (at_ .seqConv []).pos.running = true ∧ .rst ∉ (at_ .seqConv []).moves :=
  ⟨witness_Inv_seqConv.1, rfl, by decide⟩

theorem witness_SeqConvStep : (at_ .seqConv []).nextMove = .core ∧ (at_ .seqConv []).pos = .seqConv ∧
    AnimationInRange Config.params (at_ .seqConv []) := ⟨rfl, rfl, at_animation _ _⟩

theorem witness_SeqAdvStep : (at_ .seqAdv []).nextMove = .core ∧ (at_ .seqAdv []).pos = .seqAdv ∧
    AnimationInRange Config.params (at_ .seqAdv []) := ⟨rfl, rfl, at_animation _ _⟩

theorem witness_LevelRamp : p4.Valid := test_p4_valid

theorem witness_SequencerReadsNeither :
    ∃ t, (at_ .seqAdv []).pos ≠ .idle ∧ (at_ .seqAdv []).nextMove ≠ .rst ∧ step (at_ .seqAdv []) = .next t :=
  ⟨_, by decide, by decide, rfl⟩

/-- Whatever TRIG_EDGE is, some level change is a trigger event. -/
theorem some_edge : ∃ v, Spec.Edge (!v) v := by
  unfold Spec.Edge
  cases h : Config.params.trigEdge
  · exact ⟨true, .inl ⟨by decide, rfl, rfl⟩⟩
  · exact ⟨false, .inr ⟨by decide, rfl, rfl⟩⟩
  · exact ⟨true, .inl ⟨by decide, rfl, rfl⟩⟩

theorem witness_TriggerStep_edge (q : Pos) (ms : List Move) :
    ∃ (s : State) (v : Bool), s.pos = q ∧ s.moves = .prox v :: ms ∧ s.nextMove = .prox v ∧ Spec.Edge s.prox v := by
  obtain ⟨v, h⟩ := some_edge
  exact ⟨{ at_ q (.prox v :: ms) with prox := !v }, v, rfl, rfl, rfl, h⟩

theorem witness_TriggerStep_no_edge :
    (at_ .idle [.prox false]).nextMove = .prox false ∧ ¬ Spec.Edge (at_ .idle [.prox false]).prox false := by
  refine ⟨rfl, ?_⟩
  rintro (⟨-, -, h⟩ | ⟨-, h, -⟩)
  · cases h
  · change false = true at h; cases h

theorem witness_TriggerIdempotent : ∃ (s : State) (v : Bool), s.moves = [v, v, v].map .prox ++ [.core] ∧ Spec.SomeEdge s.prox [v, v, v] := by
  obtain ⟨v, h⟩ := some_edge
  exact ⟨{ at_ .seqFrame ([v, v, v].map .prox ++ [.core]) with prox := !v }, v, rfl, .inl h⟩

theorem witness_TriggerBeforeASequencerRead :
    (∃ (s : State) (v : Bool), s.pos = .seqAdv ∧ s.moves = [.prox v, .core] ∧ Spec.Edge s.prox v) ∧
    (∃ (s : State) (v : Bool), s.pos = .seqConv ∧ s.moves = [.prox v, .core] ∧ Spec.Edge s.prox v) := by
  obtain ⟨s, v, h1, h2, -, h3⟩ := witness_TriggerStep_edge .seqAdv [.core]
  obtain ⟨s', v', h1', h2', -, h3'⟩ := witness_TriggerStep_edge .seqConv [.core]
  exact ⟨⟨s, v, h1, h2, h3⟩, ⟨s', v', h1', h2', h3'⟩⟩

theorem witness_TriggerCommutes : ∀ q ∈ [Pos.idle, .frame, .seqFrame, .halt],
    (at_ q []).pos ≠ .seqConv ∧ (at_ q []).pos ≠ .seqAdv := by decide

/-- The invariant at a position outside the sequencer, with an edge pending. -/
theorem inv_outside (q : Pos) (c : Cause) (f : Byte) (ms : List Move)
    (h : (q = .idle ∧ c = .none ∧ f = 0) ∨ (q = .frame ∧ c = .none ∧ f = 1) ∨ (q = .halt ∧ c = .divZero ∧ f = 0)) :
    Inv Config.params { at_ q ms with cause := c, framesLeft := f } := by
  have ha := at_animation q ms
  have hn : q.noFrame = true → f = 0 := by
    rcases h with ⟨-, -, h⟩ | ⟨rfl, -, -⟩ | ⟨-, -, h⟩
    · exact fun _ => h
    · intro h; cases h
    · exact fun _ => h
  exact
    { animation := ⟨ha.hue_lt, ha.minLevel_le, ha.le_maxLevel⟩
      initial := fun _ => ⟨rfl, reset_level_toNat⟩
      tick_lt := by change (0 : Byte).toNat < subticks; decide
      tick_rest := fun _ => rfl
      frames_rest := hn
      frames_frame := fun hq => by
        change q = .frame at hq; subst hq
        rcases h with ⟨hq, -⟩ | ⟨-, -, h⟩ | ⟨hq, -⟩
        · cases hq
        · exact h
        · cases hq
      frames_seq := fun hq => by
        change q = .seqFrame at hq; subst hq
        rcases h with ⟨hq, -⟩ | ⟨hq, -⟩ | ⟨hq, -⟩ <;> cases hq
      cause_halt := by rcases h with ⟨rfl, rfl, -⟩ | ⟨rfl, rfl, -⟩ | ⟨rfl, rfl, -⟩ <;> simp [at_]
      hq_lt := by change (0 : Half).toNat < hueMax; decide }

theorem witness_TriggerIsNoOpOutsideTheSequencer (v : Bool) :
    (Inv Config.params { at_ .idle [.prox v] with cause := .none, framesLeft := 0 }) ∧
    (Inv Config.params { at_ .frame [.prox v] with cause := .none, framesLeft := 1 }) ∧
    (Inv Config.params { at_ .halt [.prox v] with cause := .divZero, framesLeft := 0 }) :=
  ⟨inv_outside _ _ _ _ (.inl ⟨rfl, rfl, rfl⟩), inv_outside _ _ _ _ (.inr (.inl ⟨rfl, rfl, rfl⟩)),
    inv_outside _ _ _ _ (.inr (.inr ⟨rfl, rfl, rfl⟩))⟩

theorem witness_Illegal : Spec.Illegal 0x00000000 ∧ Spec.Accepts (offering 0x00000000) 0x00000000 := by
  refine ⟨fun i h => ?_, witness_accepts _⟩
  have hd : decode 0x00000000 = .error .noSuchOp := by decide
  rw [hd] at h; cases h

theorem witness_OnlyABadCommandHalts :
    ∃ t, (offering 0x00000000).pos ≠ .halt ∧ step (offering 0x00000000) = .next t ∧ t.pos = .halt :=
  ⟨_, by decide, rfl, rfl⟩

theorem witness_HaltIsLeftOnlyByReset : (at_ .halt [.rst]).pos = .halt ∧ (at_ .halt [.rst]).nextMove = .rst ∧
    (at_ .halt []).nextMove = .core ∧ (at_ .halt [.prox true]).nextMove = .prox true := by decide

theorem witness_CauseIsSticky :
    ∃ t, step (offering 0xFFFFFFFF) = .next t ∧ t.cause ≠ (offering 0xFFFFFFFF).cause := ⟨_, rfl, by decide⟩

theorem witness_CauseIsSticky_halt :
    ∃ t, Inv Config.params { at_ .halt [.core] with cause := .divZero, framesLeft := 0 } ∧
      step { at_ .halt [.core] with cause := .divZero, framesLeft := 0 } = .next t :=
  ⟨_, inv_outside _ _ _ _ (.inr (.inr ⟨rfl, rfl, rfl⟩)), rfl⟩

theorem witness_HardwareReset : (at_ .seqFrame [.rst]).nextMove = .rst := by decide

theorem witness_AnimationStaysInRange :
    ∃ t, step (at_ .seqAdv []) = .next t ∧ AnimationInRange Config.params (at_ .seqAdv []) :=
  ⟨_, rfl, at_animation _ _⟩

theorem witness_PositionTransitions :
    (∃ t, step (at_ .seqAdv []) = .next t ∧ (at_ .seqAdv []).nextMove = .core) ∧
    (∃ t, step (at_ .idle [.prox true]) = .next t ∧ (at_ .idle [.prox true]).nextMove = .prox true) ∧
    (∃ t, step (at_ .frame [.rst]) = .next t ∧ (at_ .frame [.rst]).nextMove = .rst) :=
  ⟨⟨_, rfl, rfl⟩, ⟨_, rfl, rfl⟩, ⟨_, rfl, rfl⟩⟩

theorem witness_RegisterWriters_operand :
    ∃ t, step (offering 0x16000005) = .next t ∧ (offering 0x16000005).nextMove ≠ .rst ∧ t.x ≠ (offering 0x16000005).x :=
  ⟨_, rfl, by decide, by decide⟩

theorem witness_RegisterWriters_lines :
    ∃ t, step { inFrame .frame 0 1 with r := 1 } = .next t ∧ t.lineR ≠ ({ inFrame .frame 0 1 with r := 1 } : State).lineR ∧
      t.tick ≠ ({ inFrame .frame 0 1 with r := 1 } : State).tick := ⟨_, rfl, by decide, by decide⟩

theorem witness_RegisterWriters_hq :
    ∃ t, step { offering 0x30000000 with x := #v[0, 0, 0, 5, 5, 3, 1] } = .next t ∧
      t.hq ≠ ({ offering 0x30000000 with x := #v[0, 0, 0, 5, 5, 3, 1] } : State).hq := ⟨_, rfl, by decide⟩

theorem witness_RegisterWriters_colour :
    ∃ t, step { offering 0x20000000 with x := #v[0, 100, 100, 0, 0, 0, 0] } = .next t ∧
      t.r ≠ ({ offering 0x20000000 with x := #v[0, 100, 100, 0, 0, 0, 0] } : State).r := ⟨_, rfl, by decide⟩

theorem witness_CommandFrames : ∀ i ∈ [Instr.ldi 0 0, .ldi 7 0, .conv, .intp, .frame, .run], ∃ t, exec i State.reset = .next t :=
  fun i _ => exec_eq_next i State.reset

theorem witness_StepStops_levelZero :
    ({ at_ .seqConv [] with level := 0 } : State).nextMove = .core ∧ ({ at_ .seqConv [] with level := 0 } : State).level = 0 := by
  decide

theorem witness_StepStops_noFrameLeft :
    (inFrame .frame 254 0).nextMove = .core ∧ 254 ≤ (inFrame .frame 254 0).tick.toNat ∧ (inFrame .frame 254 0).framesLeft = 0 := by
  decide

end Sys2Proof.Tests
end

/-! STATUS field by field (spec/10_state.md R33), for every state and at reset. -/

namespace Sys2Proof.Machine

/-! ### The bits of STATUS -/

/-- The layout of R33: BUSY, RUN and FAULT at bits 0, 1 and 2, CAUSE from bit 3, zeros above. -/
theorem status_getLsbD (s : State) (i : Nat) : s.status.getLsbD i =
    if i = 0 then s.pos.busy else if i = 1 then s.pos.running else if i = 2 then s.pos == .halt
    else s.cause.code.getLsbD (i - 3) := by
  have hcat : s.status.getLsbD i = BitVec.getLsbD (w := 2 + 3 + 1 + 1 + 1) (0#2 ++ s.cause.code ++
      BitVec.ofBool (s.pos == .halt) ++ BitVec.ofBool s.pos.running ++ BitVec.ofBool s.pos.busy) i := rfl
  rw [hcat, BitVec.getLsbD_append, BitVec.getLsbD_append, BitVec.getLsbD_append, BitVec.getLsbD_append]
  rcases i with _ | _ | _ | i
  · simp
  · simp
  · simp
  · by_cases hi : i < 3
    · simp [hi]
    · simp [hi, BitVec.getLsbD_of_ge _ _ (Nat.le_of_not_lt hi)]

theorem status_extract_cause (s : State) : s.status.extractLsb' 3 3 = s.cause.code := by
  apply BitVec.eq_of_getLsbD_eq
  intro i hi
  have hne : 3 + i ≠ 1 ∧ 3 + i ≠ 2 := by omega
  simp [status_getLsbD, hi, hne]

theorem reset_status : State.reset.status = 0x00 := rfl

/-! ### What BUSY and RUN say of POS -/

theorem Pos.busy_iff {q : Pos} : q.busy = true ↔ q = .frame ∨ q = .seqConv ∨ q = .seqFrame ∨ q = .seqAdv := by
  cases q <;> decide

theorem Pos.running_iff {q : Pos} : q.running = true ↔ q = .seqConv ∨ q = .seqFrame ∨ q = .seqAdv := by
  cases q <;> decide

/-- Settles O57: the layout gives each bit, and BUSY and RUN are the sets of positions R33 lists. -/
theorem statusView : Obligations.StatusView := by
  refine ⟨fun s => ⟨?_, ?_, ?_, status_extract_cause s, ?_, ?_⟩, reset_status⟩ <;> rw [status_getLsbD]
  · exact Pos.busy_iff
  · exact Pos.running_iff
  · exact beq_iff_eq
  · exact BitVec.getLsbD_of_ge _ _ (by decide)
  · exact BitVec.getLsbD_of_ge _ _ (by decide)

end Sys2Proof.Machine

/-! The animation state CUR_HUE and LEVEL (spec/10_state.md R25 to R27): its values at reset, who writes it, and its range. -/

namespace Sys2Proof.Machine

variable {s t : State}

/-! ### The initial animation state -/

/-- MIN_LEVEL fits LEVEL, so writing it loses nothing (R7). -/
theorem minLevel_toNat : (BitVec.ofNat 8 Config.params.minLevel).toNat = Config.params.minLevel := by
  have hle := minLevel_le_maxLevel
  have hmax := maxLevel_le_255
  rw [BitVec.toNat_ofNat, Nat.mod_eq_of_lt (by omega)]

theorem animationInitial_of_eq (hh : s.curHue = 0) (hl : s.level = BitVec.ofNat 8 Config.params.minLevel) :
    AnimationInitial Config.params s :=
  ⟨hh, by rw [hl, minLevel_toNat]⟩

theorem reset_animationInitial : AnimationInitial Config.params State.reset := animationInitial_of_eq rfl rfl

/-- Settles O51: each register by the record of R38; LEVEL needs that MIN_LEVEL fits 8 bits. -/
theorem resetValues : Obligations.ResetValues :=
  ⟨fun i => Vector.getElem_replicate i.isLt, rfl, rfl, rfl, rfl, rfl, reset_animationInitial.level, rfl, rfl, rfl, rfl,
    rfl, rfl, rfl, reset_status⟩

/-! ### The range of R25 -/

/-- The initial animation state is in range. -/
theorem AnimationInitial.inRange (h : AnimationInitial Config.params s) : AnimationInRange Config.params s where
  hue_lt := by rw [h.hue]; decide
  minLevel_le := h.level.ge
  le_maxLevel := h.level.trans_le minLevel_le_maxLevel

/-- The range speaks of CUR_HUE and LEVEL only. -/
theorem AnimationInRange.congr {p : Params} (h : AnimationInRange p s) (hh : t.curHue = s.curHue)
    (hl : t.level = s.level) : AnimationInRange p t :=
  ⟨hh ▸ h.hue_lt, hl ▸ h.minLevel_le, hl ▸ h.le_maxLevel⟩

/-- One hue step of R166 keeps the pair in range. -/
theorem advancePair_inRange {p : Params} {h l : Nat} (hp : p.minLevel ≤ l) (hm : l ≤ p.maxLevel) :
    (advancePair p (h, l)).1 < hueMax ∧ p.minLevel ≤ (advancePair p (h, l)).2 ∧
      (advancePair p (h, l)).2 ≤ p.maxLevel := by
  by_cases hh : h + p.hueStep < 1536
  · rw [advancePair_of_lt hh]; exact ⟨hh, hp, hm⟩
  · rw [advancePair_of_ge hh]
    exact ⟨Nat.zero_lt_succ _, le_min (by omega) (by omega), min_le_right _ _⟩

/-- SEQ_ADV keeps the animation state in range: the advanced pair fits its registers. -/
theorem seqAdv_inRange (h : AnimationInRange Config.params s) :
    AnimationInRange Config.params (seqAdv Config.params s) := by
  obtain ⟨hhue, hmin, hmax⟩ := advancePair_inRange (h := s.curHue.toNat) h.minLevel_le h.le_maxLevel
  have hbyte := maxLevel_le_255
  have hcur : (seqAdv Config.params s).curHue.toNat =
      (advancePair Config.params (s.curHue.toNat, s.level.toNat)).1 :=
    Nat.mod_eq_of_lt (hhue.trans (by decide))
  have hlev : (seqAdv Config.params s).level.toNat =
      (advancePair Config.params (s.curHue.toNat, s.level.toNat)).2 :=
    Nat.mod_eq_of_lt (by omega)
  exact ⟨hcur ▸ hhue, hlev ▸ hmin, hlev ▸ hmax⟩

/-! ### Who writes the animation state -/

/-- The model's edge test under the build's TRIG_EDGE is R199's. -/
theorem isTriggerEdge_iff_edge (old new : Bool) :
    isTriggerEdge Config.params.trigEdge old new = true ↔ Spec.Edge old new :=
  isTriggerEdge_iff _ _ _

/-- No command writes the animation state (R26, R27). -/
theorem exec_animation {i : Instr} (h : exec i s = .next t) : t.curHue = s.curHue ∧ t.level = s.level := by
  rcases exec_cases h with ⟨_, _, _, -, -, rfl⟩ | ⟨_, _, -, -, rfl⟩ | ⟨-, rfl⟩ | ⟨-, _, -, rfl⟩ | ⟨-, -, rfl⟩ |
    ⟨-, rfl⟩ | ⟨-, rfl⟩ <;> exact ⟨rfl, rfl⟩

theorem subTick_animation (h : subTick s = .next t) : t.curHue = s.curHue ∧ t.level = s.level := by
  rw [(subTick_frame h).1]; exact ⟨rfl, rfl⟩

/-- SEQ_CONV reads the animation state and does not write it (R163). -/
theorem seqConv_animation {p : Params} (h : seqConv p s = .next t) : t.curHue = s.curHue ∧ t.level = s.level := by
  rw [seqConv_frame h]; exact ⟨rfl, rfl⟩

/-- Everything a step can do to the animation state: a hardware reset or a trigger event makes it initial, SEQ_ADV advances
it, and any other step leaves it (R25). -/
theorem step_animation_cases (h : step s = .next t) :
    ((s.nextMove = .rst ∨ ∃ v, s.nextMove = .prox v ∧ Spec.Edge s.prox v) ∧ AnimationInitial Config.params t) ∨
    (s.nextMove = .core ∧ s.pos = .seqAdv ∧ t = seqAdv Config.params s.popMove) ∨
    (t.curHue = s.curHue ∧ t.level = s.level) := by
  rcases step_cases h with ⟨hrst, rfl⟩ | ⟨v, hprox, rfl⟩ | ⟨hcore, hturn⟩
  · exact .inl ⟨.inl hrst, animationInitial_of_eq rfl rfl⟩
  · by_cases he : Spec.Edge s.prox v
    · rw [senseProx_of_edge (s := s.popMove) ((isTriggerEdge_iff_edge _ _).2 he)]
      exact .inl ⟨.inr ⟨v, hprox, he⟩, animationInitial_of_eq rfl rfl⟩
    · have hne : isTriggerEdge Config.params.trigEdge s.popMove.prox v = false :=
        Bool.eq_false_iff.2 fun hi => he ((isTriggerEdge_iff_edge _ _).1 hi)
      rw [senseProx_of_not_edge hne]
      exact .inr (.inr ⟨rfl, rfl⟩)
  · rcases hturn with ⟨-, rfl⟩ | ⟨-, _, _, _, -, -, hexec⟩ | ⟨-, _, _, _, -, -, rfl⟩ | ⟨-, hsub⟩ | ⟨-, hconv⟩ | ⟨hadv, rfl⟩
    · exact .inr (.inr ⟨rfl, rfl⟩)
    · exact .inr (.inr (exec_animation (s := s.popMove.setHost _) hexec))
    · exact .inr (.inr ⟨rfl, rfl⟩)
    · exact .inr (.inr (subTick_animation (s := s.popMove) hsub))
    · exact .inr (.inr (seqConv_animation (s := s.popMove) hconv))
    · exact .inr (.inl ⟨hcore, hadv, rfl⟩)

/-- Every step keeps R25's range. -/
theorem step_keeps_animationInRange (h : step s = .next t) (hs : AnimationInRange Config.params s) :
    AnimationInRange Config.params t := by
  rcases step_animation_cases h with ⟨-, hinit⟩ | ⟨-, -, rfl⟩ | ⟨hhue, hlevel⟩
  · exact hinit.inRange
  · exact seqAdv_inRange (hs.congr (t := s.popMove) rfl rfl)
  · exact hs.congr hhue hlevel

/-- The three writers of the animation state (R25). -/
theorem step_animation_writers (h : step s = .next t) (hne : t.curHue ≠ s.curHue ∨ t.level ≠ s.level) :
    s.nextMove = .rst ∨ (∃ v, s.nextMove = .prox v ∧ Spec.Edge s.prox v) ∨ (s.nextMove = .core ∧ s.pos = .seqAdv) := by
  rcases step_animation_cases h with ⟨hrst | hedge, -⟩ | ⟨hcore, hadv, -⟩ | ⟨hhue, hlevel⟩
  · exact .inl hrst
  · exact .inr (.inl hedge)
  · exact .inr (.inr ⟨hcore, hadv⟩)
  · exact absurd hne (by simp [hhue, hlevel])

/-- Settles O55: the range holds at reset, where the animation state is initial, and the step lemmas give the rest. -/
theorem animationStaysInRange : Obligations.AnimationStaysInRange :=
  ⟨reset_animationInitial.inRange,
    fun _ _ h => ⟨step_keeps_animationInRange h, step_animation_writers h⟩⟩

end Sys2Proof.Machine

/-! The decoder against R74's listing (spec/30_encoding.md R71, R74), by the fields of the word. -/

namespace Sys2Proof

/-! ### The listing's fields are the word's fields -/

theorem rdField_eq_ofNat (w : Word) : rdField w = BitVec.ofNat 4 (w.toNat / 2 ^ 24) :=
  BitVec.eq_of_toNat_eq (by rw [rdField_toNat, BitVec.toNat_ofNat])

theorem immField_eq_ofNat (w : Word) : immField w = BitVec.ofNat 16 w.toNat :=
  BitVec.eq_of_toNat_eq (by rw [immField_toNat, BitVec.toNat_ofNat])

theorem rdField_eq_zero_iff (w : Word) : rdField w = 0 ↔ w.toNat / 2 ^ 24 % 2 ^ 4 = 0 := by
  rw [← BitVec.toNat_inj, rdField_toNat]; rfl

theorem zeroField_eq_zero_iff (w : Word) : zeroField w = 0 ↔ w.toNat / 2 ^ 16 % 2 ^ 8 = 0 := by
  rw [← BitVec.toNat_inj, zeroField_toNat]; rfl

theorem immField_eq_zero_iff (w : Word) : immField w = 0 ↔ w.toNat % 2 ^ 16 = 0 := by
  rw [← BitVec.toNat_inj, immField_toNat]; rfl

/-- R74's listing, with its arithmetic read as the fields of R71. -/
theorem specDecode_toNat (w : Word) : Spec.decode w.toNat =
    if zeroField w ≠ 0 then none
    else if (opField w).toNat = 1 then
      if (rdField w).toNat ≤ 6 then some (.ldi (rdField w) (immField w)) else none
    else if rdField w ≠ 0 ∨ immField w ≠ 0 then none
    else if (opField w).toNat = 2 then some .conv
    else if (opField w).toNat = 3 then some .intp
    else if (opField w).toNat = 4 then some .frame
    else if (opField w).toNat = 5 then some .run
    else none := by
  simp only [ne_eq, zeroField_eq_zero_iff, rdField_eq_zero_iff, immField_eq_zero_iff, opField_toNat,
    rdField_toNat]
  rw [rdField_eq_ofNat, immField_eq_ofNat]; rfl

/-! ### The decoder by its verdict -/

/-- The decoder's answer on a field-free command, the reason of a refusal left out. -/
theorem toOption_decodePlain (w : Word) (i : Instr) :
    (decodePlain w i).toOption = if rdField w ≠ 0 ∨ immField w ≠ 0 then none else some i := by
  by_cases hplain : rdField w = 0 ∧ immField w = 0
  · rw [decodePlain, if_pos hplain, if_neg (by tauto)]; rfl
  · rw [decodePlain, if_neg hplain, if_pos (by tauto)]; rfl

/-- The decoder is R74's listing, an error being the listing's Illegal: the same test of `zero`, then one case per row
of R73. -/
theorem toOption_decode (w : Word) : (decode w).toOption = Spec.decode w.toNat := by
  rw [specDecode_toNat, decode]
  by_cases hzero : zeroField w = 0
  · rw [if_neg (not_not.2 hzero), if_neg (not_not.2 hzero)]
    split
    next hop => rw [if_pos hop]; split <;> rfl
    next hop => simp [hop, toOption_decodePlain]
    next hop => simp [hop, toOption_decodePlain]
    next hop => simp [hop, toOption_decodePlain]
    next hop => simp [hop, toOption_decodePlain]
    next h1 h2 h3 h4 h5 => rw [if_neg h1, if_neg h2, if_neg h3, if_neg h4, if_neg h5, ite_self]; rfl
  · rw [if_pos hzero, if_pos hzero]; rfl

/-- On 32 bits the opcode table's reading is the decoder's. -/
theorem decodeTableWord_toNat (w : Word) : decodeTableWord 32 w.toNat = (decode w).toOption := by
  rw [decodeTableWord, tableWord_toNat]
  cases decode w <;> rfl

/-- Settles O2: both clauses are the equality of verdicts `toOption_decode`, read off the decoder's two answers. -/
theorem decodeIsRuleListing : Obligations.DecodeIsRuleListing := by
  intro w
  have hlisting := toOption_decode w
  refine ⟨(decodeTableWord_toNat w).trans hlisting, ?_⟩
  cases hd : decode w with
  | ok i => exact .inl ⟨i, rfl, by rw [← hlisting, hd]; rfl⟩
  | error e => exact .inr ⟨fun i => by simp [hd], by rw [← hlisting, hd]; rfl⟩

end Sys2Proof

/-! The converter's raw triple, blend and listing (spec/41_convert.md R101, R105, R106, R108). -/

namespace Sys2Proof.Machine

/-! ### Hue reduction (R101) -/

/-- A reduced hue lies in one of the six sectors, so its sector needs no modulo. -/
theorem sector_of_reduced {h : Nat} (hh : h < 1536) : sector h = h / 256 :=
  Nat.mod_eq_of_lt (by change h / 256 < 6; omega)

/-- 1536 is six whole sectors: reduction does not change the sector. -/
theorem sector_reduceHue (hue : Nat) : sector (reduceHue hue) = hue / 256 % 6 := by
  change hue % 1536 / 256 % 6 = hue / 256 % 6
  omega

/-- 1536 is a multiple of 256: reduction does not change the position in the sector. -/
theorem sectorPos_reduceHue (hue : Nat) : sectorPos (reduceHue hue) = hue % 256 :=
  Nat.mod_mod_of_dvd hue (by decide)

/-- R101's upper register bits: all of the hue above the position. -/
theorem extract_high_toNat (hue : Half) : (hue.extractLsb' 8 8).toNat = hue.toNat / 256 := by
  have hlt : hue.toNat / 256 < 256 := by omega
  rw [BitVec.extractLsb'_toNat, Nat.shiftRight_eq_div_pow]
  exact Nat.mod_eq_of_lt hlt

theorem extract_low_toNat (hue : Half) : (hue.extractLsb' 0 8).toNat = hue.toNat % 256 := by
  rw [BitVec.extractLsb'_toNat, Nat.shiftRight_zero]

/-- Settles O18: reduction keeps sector and position, which the two register bytes give before it. -/
theorem hueReductionFromTheRegisterBits : Obligations.HueReductionFromTheRegisterBits := by
  intro hue
  refine ⟨reduceHue_lt _, rfl, sector_of_reduced (reduceHue_lt _), Nat.le_of_lt_succ (sector_lt _), ?_, ?_⟩
  · rw [sector_reduceHue, extract_high_toNat]
  · rw [sectorPos_reduceHue, extract_low_toNat]

/-! ### The raw triple (R105) -/

/-- The channel that falls: three divides the number of sectors, so the reduction modulo six is not seen. -/
theorem sector_mod_three (h : Nat) : sector h % 3 = h / 256 % 3 :=
  Nat.mod_mod_of_dvd (h / 256) (by decide)

theorem raw_fall {h i : Nat} (hi : i = sector h % 3) : Spec.raw h i = 255 - sectorPos h :=
  if_pos (by rw [hi, sector_mod_three])

theorem raw_rise {h i : Nat} (hi : i = (sector h % 3 + 1) % 3) : Spec.raw h i = sectorPos h := by
  rw [sector_mod_three] at hi
  exact (if_neg (by omega)).trans (if_pos hi)

theorem raw_zero {h i : Nat} (hi : i = (sector h % 3 + 2) % 3) : Spec.raw h i = 0 := by
  rw [sector_mod_three] at hi
  exact (if_neg (by omega)).trans (if_neg (by omega))

theorem raw_le (h i : Nat) : Spec.raw h i ≤ 255 := by
  unfold Spec.raw
  split
  · omega
  · split <;> omega

/-- The three rotations of R105, channel by channel. -/
theorem raw_rotations (h : Nat) :
    (sector h % 3 = 0 ∧ Spec.raw h 0 = 255 - sectorPos h ∧ Spec.raw h 1 = sectorPos h ∧ Spec.raw h 2 = 0) ∨
    (sector h % 3 = 1 ∧ Spec.raw h 0 = 0 ∧ Spec.raw h 1 = 255 - sectorPos h ∧ Spec.raw h 2 = sectorPos h) ∨
    (sector h % 3 = 2 ∧ Spec.raw h 0 = sectorPos h ∧ Spec.raw h 1 = 0 ∧ Spec.raw h 2 = 255 - sectorPos h) := by
  obtain hc | hc | hc : sector h % 3 = 0 ∨ sector h % 3 = 1 ∨ sector h % 3 = 2 := by omega
  · exact .inl ⟨hc, raw_fall (by omega), raw_rise (by omega), raw_zero (by omega)⟩
  · exact .inr (.inl ⟨hc, raw_zero (by omega), raw_fall (by omega), raw_rise (by omega)⟩)
  · exact .inr (.inr ⟨hc, raw_rise (by omega), raw_zero (by omega), raw_fall (by omega)⟩)

/-- The sector table is R105's rotation: the row of each kind of sector puts its ramps on the same channels. -/
theorem rawColour_eq_raw (h : Nat) : rawColour h = ⟨Spec.raw h 0, Spec.raw h 1, Spec.raw h 2⟩ := by
  rw [rawColour, sectorRow_eq _ (sector_lt h)]
  obtain ⟨hc, h0, h1, h2⟩ | ⟨hc, h0, h1, h2⟩ | ⟨hc, h0, h1, h2⟩ := raw_rotations h <;>
    (rw [hc, h0, h1, h2]; rfl)

/-- Whatever the rotation, what falls and what rises make 255. -/
theorem raw_sum (h : Nat) : Spec.raw h 0 + Spec.raw h 1 + Spec.raw h 2 = 255 := by
  have hpos := sectorPos_lt h
  obtain ⟨-, h0, h1, h2⟩ | ⟨-, h0, h1, h2⟩ | ⟨-, h0, h1, h2⟩ := raw_rotations h <;> omega

/-- Settles O17: the triple is that of the listing, read by the place of each channel in the rotation. -/
theorem rawTripleByRotation : Obligations.RawTripleByRotation := by
  intro h _
  refine ⟨fun i => Spec.raw h i, rawColour_eq_raw h, fun i j k hi hj hk => ?_, fun i => raw_le h i, raw_sum h⟩
  have hpos := sectorPos_lt h
  have hfall := raw_fall hi
  have hrise := raw_rise hj
  exact ⟨hfall, hrise, raw_zero hk, by simp only [hfall]; omega, by simp only [hrise]⟩

/-! ### The saturation blend (R106) -/

theorem le_blend (s raw : Nat) : raw ≤ blend s raw := Nat.le_add_right _ _

/-- At full saturation nothing is added. -/
theorem blend_full (raw : Nat) : blend 100 raw = raw := by
  simp [blend, pctMax]

/-- At no saturation the whole distance to 255 is added. -/
theorem blend_none {raw : Nat} (hr : raw ≤ 255) : blend 0 raw = 255 := by
  simp only [blend, chMax, pctMax]
  omega

/-- The product of a channel's value or distance with a percentage fits 15 bits (R106, R107). -/
theorem channel_mul_pct_le {a p : Nat} (ha : a ≤ 255) (hp : p ≤ 100) : a * p ≤ 25500 := Nat.mul_le_mul ha hp

/-- The weighted sum is the blend: 100 × raw passes through the truncation. -/
theorem blend_eq_weighted {s raw : Nat} (hs : s ≤ 100) (hr : raw ≤ 255) :
    blend s raw = (raw * s + 255 * (100 - s)) / 100 := by
  obtain ⟨d, hd⟩ := Nat.exists_eq_add_of_le hr
  obtain ⟨t, ht⟩ := Nat.exists_eq_add_of_le hs
  have hsum : raw * s + 255 * (100 - s) = 100 * raw + (255 - raw) * (100 - s) := by
    rw [show 255 - raw = d by omega, show 100 - s = t by omega, hd, ht]; ring
  rw [hsum, Nat.mul_add_div (by decide)]; rfl

/-- Taking the saturated share of the distance off 255 truncates the other part of it, so it is at most 1 larger. -/
theorem white_minus_share_cases {s raw : Nat} (hs : s ≤ 100) (hr : raw ≤ 255) :
    255 - (255 - raw) * s / 100 = blend s raw ∨ 255 - (255 - raw) * s / 100 = blend s raw + 1 := by
  have hparts : (255 - raw) * s + (255 - raw) * (100 - s) = (255 - raw) * 100 := by
    rw [← Nat.mul_add, Nat.add_sub_cancel' hs]
  simp only [blend, chMax, pctMax]
  omega

/-- Settles O19: the laws of the blend above; the two roundings differ at saturation 1 and raw value 254. -/
theorem saturationBlend : Obligations.SaturationBlend :=
  ⟨fun _ raw hs hr => ⟨rfl, channel_mul_pct_le (Nat.sub_le ..) (Nat.sub_le ..), le_blend _ _, blend_le hr,
      blend_full raw, blend_none hr, blend_eq_weighted hs hr, white_minus_share_cases hs hr⟩,
    1, 254, by decide⟩

/-! ### The listing (R108) -/

/-- `w` of the listing is the blend of the clamped saturation. -/
theorem white_eq_blend (hue sat i : Nat) :
    Spec.white hue sat i = blend (clampPct sat) (Spec.raw (reduceHue hue) i) := rfl

/-- `out` of the listing is its `w` scaled by the clamped brightness. -/
theorem channel_eq_scale (hue sat val i : Nat) :
    Spec.channel hue sat val i = scale (clampPct val) (Spec.white hue sat i) := rfl

theorem white_le (hue sat i : Nat) : Spec.white hue sat i ≤ 255 := by
  rw [white_eq_blend]; exact blend_le (raw_le _ _)

theorem channel_le_white (hue sat val i : Nat) : Spec.channel hue sat val i ≤ Spec.white hue sat i := by
  rw [channel_eq_scale]; exact scale_le (clampPct_le val)

theorem convert_eq_channel (hue sat val : Nat) : convert hue sat val =
    ⟨Spec.channel hue sat val 0, Spec.channel hue sat val 1, Spec.channel hue sat val 2⟩ := by
  rw [convert, rawColour_eq_raw]; rfl

/-- Settles O16: the table is the rotation on every hue, and each product has a channel and a percentage as factors. -/
theorem convertIsRuleListing : Obligations.ConvertIsRuleListing := by
  intro hue sat val
  refine ⟨convert_eq_channel _ _ _, (sector_mod_three _).symm, (reduceHue_lt _).trans (by decide), fun i _ => ?_⟩
  have hwhite := white_le hue.toNat sat.toNat i
  have hdist := channel_mul_pct_le (Nat.sub_le 255 (Spec.raw (hue.toNat % 1536) i))
    (Nat.sub_le 100 (min sat.toNat 100))
  have hscale := channel_mul_pct_le hwhite (Nat.min_le_right val.toNat 100)
  exact ⟨hdist.trans_lt (by decide), hscale.trans_lt (by decide), raw_le _ _, hwhite,
    (channel_le_white _ _ _ _).trans hwhite⟩

end Sys2Proof.Machine

/-! INTP outside its contract (spec/42_interpolate.md R121): the first broken precondition decides the fault. -/

namespace Sys2Proof.Machine

/-! ### The checks of R121, one by one -/

section
variable {a b n k : Nat}

theorem interpolateViolation_divZero : interpolateViolation a b 0 k = some .divZero := if_pos rfl

theorem interpolateViolation_hueRange (hn : n ≠ 0) (hhue : hueMax ≤ a ∨ hueMax ≤ b) :
    interpolateViolation a b n k = some .hueRange := by
  rw [interpolateViolation, if_neg hn, if_pos hhue]

theorem interpolateViolation_stepRange (hn : n ≠ 0) (ha : a < hueMax) (hb : b < hueMax) (hk : n < k) :
    interpolateViolation a b n k = some .stepRange := by
  have hhue : ¬ (a ≥ hueMax ∨ b ≥ hueMax) := not_or.2 ⟨ha.not_ge, hb.not_ge⟩
  rw [interpolateViolation, if_neg hn, if_neg hhue, if_pos hk]

end

/-! ### The fault -/

/-- INTP's four operands are `x[3]` to `x[6]` (R21), and a violation among them is the fault it raises. -/
theorem exec_intp_of_violation {s : State} {c : Cause}
    (hv : interpolateViolation s.x[3].toNat s.x[4].toNat s.x[5].toNat s.x[6].toNat = some c) :
    exec .intp s = .next (raiseFault c s) := by
  rcases execIntp_cases s with ⟨c', hv', hexec⟩ | ⟨hnone, -⟩
  · obtain rfl : c = c' := Option.some.inj (hv.symm.trans hv')
    exact hexec
  · cases hv.symm.trans hnone

/-- Settles O26: under each clause's hypotheses its check is the first that fails, and raising the fault writes CAUSE and POS
alone. -/
theorem intpFaultsInOrder : Obligations.IntpFaultsInOrder :=
  fun _ => ⟨
    fun hn => exec_intp_of_violation (hn ▸ interpolateViolation_divZero),
    fun hn hhue => exec_intp_of_violation (interpolateViolation_hueRange hn hhue),
    fun hn ha hb hk => exec_intp_of_violation (interpolateViolation_stepRange hn ha hb hk)⟩

end Sys2Proof.Machine

/-! The sub-tick step against R142's listing (spec/43_pwm.md), inside a frame and at its end. -/

namespace Sys2Proof.Machine

variable {s : State}

/-! ### The sub-tick step in the listing's terms -/

/-- The three comparisons are those of the listing, made before the counters are written. -/
theorem compareLines_eq_withLines (s : State) : s.compareLines = Spec.withLines s.tick.toNat s := rfl

/-- Inside a frame the counter goes up by one and FRAMES_LEFT and POS stay. -/
theorem subTick_inside (ht : s.tick.toNat < 254) :
    subTick s = .next { Spec.withLines s.tick.toNat s with tick := BitVec.ofNat 8 (s.tick.toNat + 1) } := by
  have hsucc : s.tick + 1 = BitVec.ofNat 8 (s.tick.toNat + 1) := by bv_omega
  rw [subTick_of_lt ht, hsucc, compareLines_eq_withLines]; rfl

/-- At the last sub-tick of a frame the counter starts over and FRAMES_LEFT goes down by one; POS moves when the frame was
the last one asked for. -/
theorem subTick_last (ht : s.tick.toNat = 254) (hf : 1 ≤ s.framesLeft.toNat) :
    subTick s = .next { Spec.withLines 254 s with
      tick := 0, framesLeft := BitVec.ofNat 8 (s.framesLeft.toNat - 1),
      pos := if s.framesLeft.toNat = 1 then afterFrames s.pos else s.pos } := by
  have hne : s.framesLeft ≠ 0 := by bv_omega
  have hpred : s.framesLeft - 1 = BitVec.ofNat 8 (s.framesLeft.toNat - 1) := by bv_omega
  have hone : s.framesLeft = 1 ↔ s.framesLeft.toNat = 1 := BitVec.toNat_inj.symm
  rw [subTick_of_last (by omega), endFrame_of_ne_zero (s := s.compareLines) hne, compareLines_framesLeft,
    compareLines_pos, compareLines_eq_withLines, ht, hpred]
  simp only [hone]; rfl

/-- Where FRAME and SEQ_FRAME go after the last frame. -/
theorem afterFrames_of_inFrame {q : Pos} (hq : q = .frame ∨ q = .seqFrame) :
    afterFrames q = if q = .frame then .idle else .seqAdv := by
  rcases hq with rfl | rfl <;> rfl

/-- The core's turn in FRAME and in SEQ_FRAME is a sub-tick step (R142, R164). -/
theorem step_eq_subTick (hturn : s.nextMove = .core) (hpos : s.pos = .frame ∨ s.pos = .seqFrame) :
    step s = subTick (Spec.turned s) := by
  rw [step_of_core hturn]
  rcases hpos with hpos | hpos
  · exact coreStep_frame (s := s.popMove) hpos
  · exact coreStep_seqFrame (s := s.popMove) hpos

/-- Settles O31: the turn is a sub-tick step, inside a frame for the first clause and at its end for the two others, which
differ in whether POS moves. -/
theorem subTickStep : Obligations.SubTickStep := by
  intro s hturn hpos
  rw [step_eq_subTick hturn hpos]
  refine ⟨fun ht => subTick_inside (s := Spec.turned s) ht, fun ht hf => ?_, fun ht hf => ?_⟩
  · have hmore : (Spec.turned s).framesLeft.toNat ≠ 1 := Nat.ne_of_gt hf
    rw [subTick_last (s := Spec.turned s) ht (Nat.le_of_lt hf), if_neg hmore]; rfl
  · have hone : (Spec.turned s).framesLeft.toNat = 1 := hf
    rw [subTick_last (s := Spec.turned s) ht hone.ge, if_pos hone, hone,
      afterFrames_of_inFrame (q := (Spec.turned s).pos) hpos]; rfl

end Sys2Proof.Machine

/-! The sequencer's SEQ_CONV and SEQ_ADV against the listings of R163 and R166 (spec/44_sequencer.md). -/

namespace Sys2Proof.Machine

variable {s : State}

/-! ### SEQ_CONV -/

/-- The colour the converter gives for the current pair is the one R163 lists. -/
theorem showColour_eq_withHueColour (s : State) :
    s.showColour s.curHue.toNat Config.params.seqSat.toNat (Config.params.seqVal s.level).toNat =
      Spec.withHueColour s := by
  rw [showColour_eq, convert_eq_channel]; rfl

/-- In R25's range the level is never 0, so R163 never divides by zero. -/
theorem AnimationInRange.level_pos (h : AnimationInRange Config.params s) : 1 ≤ s.level.toNat :=
  one_le_minLevel.trans h.minLevel_le

/-- At a level other than 0 SEQ_CONV writes the colour and starts MAX_LEVEL / LEVEL frames. -/
theorem seqConv_of_level_pos (hl : 1 ≤ s.level.toNat) :
    seqConv Config.params s = .next ((Spec.withHueColour s).startFrames
      (BitVec.ofNat 8 (Config.params.maxLevel / s.level.toNat)) .seqFrame) := by
  rcases seqConv_cases Config.params s with ⟨hzero, -⟩ | ⟨-, hnext⟩
  · exact absurd (congrArg BitVec.toNat hzero) (Nat.ne_of_gt hl)
  · rw [hnext, showColour_eq_withHueColour]

/-- The repeat count is at least 1, because the level is at most MAX_LEVEL, and at most MAX_LEVEL (R163). -/
theorem repeatCount_bounds {p : Params} {l : Nat} (hl : 1 ≤ l) (hle : l ≤ p.maxLevel) :
    1 ≤ repeatCount p l ∧ repeatCount p l ≤ p.maxLevel :=
  ⟨Nat.div_pos hle hl, Nat.div_le_self _ _⟩

/-- Settles O35: in R25's range the level is not 0, so the turn is the completed SEQ_CONV, and the same range bounds the
repeat count. -/
theorem seqConvStep : Obligations.SeqConvStep := by
  intro s hturn hpos hrange
  obtain ⟨hone, hmax⟩ := repeatCount_bounds hrange.level_pos hrange.le_maxLevel
  refine ⟨?_, hone, hmax, maxLevel_le_255⟩
  rw [step_of_core hturn, coreStep_seqConv (s := s.popMove) hpos,
    seqConv_of_level_pos (s := s.popMove) hrange.level_pos]; rfl

/-! ### SEQ_ADV -/

/-- SEQ_ADV writes the animation state R166 lists, in both branches, and goes on to SEQ_CONV. -/
theorem seqAdv_eq_withAdvance (s : State) :
    seqAdv Config.params s = (Spec.withAdvance s).setPos .seqConv := by
  by_cases hsweep : s.curHue.toNat + Config.params.hueStep < 1536
  · rw [seqAdv, advancePair_of_lt hsweep, Spec.withAdvance, if_pos hsweep, BitVec.ofNat_toNat, BitVec.setWidth_eq]; rfl
  · rw [seqAdv, advancePair_of_ge hsweep, Spec.withAdvance, if_neg hsweep]; rfl

/-- The advanced animation state stays in R25's range: SEQ_ADV keeps it, and POS does not enter it. -/
theorem withAdvance_inRange (h : AnimationInRange Config.params s) :
    AnimationInRange Config.params (Spec.withAdvance s) :=
  have hadv : AnimationInRange Config.params ((Spec.withAdvance s).setPos .seqConv) :=
    seqAdv_eq_withAdvance s ▸ seqAdv_inRange h
  hadv.congr rfl rfl

/-- Settles O36: the core's turn at SEQ_ADV is the advance of R166's listing, which keeps the range. -/
theorem seqAdvStep : Obligations.SeqAdvStep := by
  refine fun s hturn hpos => ⟨?_, withAdvance_inRange⟩
  rw [step_of_core hturn, coreStep_seqAdv (s := s.popMove) hpos, seqAdv_eq_withAdvance]; rfl

end Sys2Proof.Machine

/-! Hardware reset (spec/70_reset_and_hazards.md R230), taken in any position. -/

namespace Sys2Proof.Machine

/-- Settles O50: the turn of `rst` is the hardware reset step whatever POS holds, and that step keeps only the inputs. -/
theorem hardwareResetWritesEveryRegister : Obligations.HardwareResetWritesEveryRegister :=
  fun s hrst => ⟨hardwareReset Config.params s.popMove, step_of_rst hrst, rfl⟩

end Sys2Proof.Machine

/-! Decoding and encoding are inverse (spec/30_encoding.md R71 to R74, R78): a word is its four fields, and the decoder
answers a command exactly where the fields are the command's. -/

namespace Sys2Proof

open Laws.EncodeFields (rdOf immOf)

/-! ### A word is its four fields (R71) -/

theorem word_ext_fields {v w : Word} (hop : opField v = opField w) (hrd : rdField v = rdField w)
    (hzero : zeroField v = zeroField w) (himm : immField v = immField w) : v = w :=
  BitVec.eq_of_toNat_eq (by
    rw [word_toNat_eq_fields v, word_toNat_eq_fields w, hop, hrd, hzero, himm])

/-- The fields of a command's word, for every command (R71, R73). -/
theorem encode_fields (i : Instr) : Laws.EncodeFields.Statement i := by
  cases i with
  | ldi rd imm => exact Laws.EncodeFields.ldi rd imm
  | conv => exact Laws.EncodeFields.conv
  | intp => exact Laws.EncodeFields.intp
  | frame => exact Laws.EncodeFields.frame
  | run => exact Laws.EncodeFields.run

/-- `w` is a word of command `i`, field by field. -/
structure FieldsOf (i : Instr) (w : Word) : Prop where
  op : opField w = opcode i
  rd : rdField w = rdOf i
  zero : zeroField w = 0
  imm : immField w = immOf i

theorem fieldsOf_encode (i : Instr) : FieldsOf i (encode i) :=
  have ⟨hop, hrd, hzero, himm⟩ := encode_fields i
  ⟨hop, hrd, hzero, himm⟩

/-- The fields leave no choice: they are those of one word. -/
theorem fieldsOf_iff {i : Instr} {w : Word} : FieldsOf i w ↔ w = encode i := by
  refine ⟨fun h => ?_, fun h => h ▸ fieldsOf_encode i⟩
  have he := fieldsOf_encode i
  exact word_ext_fields (h.op.trans he.op.symm) (h.rd.trans he.rd.symm) (h.zero.trans he.zero.symm)
    (h.imm.trans he.imm.symm)

/-! ### The decoder's answers -/

theorem opField_eq_of_toNat {w : Word} {v : BitVec 4} (h : (opField w).toNat = v.toNat) : opField w = v :=
  BitVec.eq_of_toNat_eq h

/-- A row of R73 without operand fields. -/
theorem fieldsOf_of_decodePlain {w : Word} {i j : Instr} (h : decodePlain w j = .ok i)
    (hj : j.WellFormed = true ∧ rdOf j = 0 ∧ immOf j = 0) (hop : (opField w).toNat = (opcode j).toNat)
    (hzero : zeroField w = 0) : i.WellFormed = true ∧ FieldsOf i w := by
  obtain ⟨hwf, hrdOf, himmOf⟩ := hj
  obtain ⟨rfl, hrd, himm⟩ := decodePlain_eq_ok.1 h
  exact ⟨hwf, opField_eq_of_toNat hop, hrd.trans hrdOf.symm, hzero, himm.trans himmOf.symm⟩

/-- A command the decoder answers is well-formed and has the word's fields: one case per row of R73. -/
theorem fieldsOf_of_decode {w : Word} {i : Instr} (h : decode w = .ok i) : i.WellFormed = true ∧ FieldsOf i w := by
  unfold decode at h
  split at h
  · cases h
  next hzero =>
    have hzero : zeroField w = 0 := not_not.1 hzero
    split at h
    next hop =>
      split at h
      next hrd => cases h; exact ⟨decide_eq_true hrd, opField_eq_of_toNat hop, rfl, hzero, rfl⟩
      · cases h
    next hop => exact fieldsOf_of_decodePlain h ⟨rfl, rfl, rfl⟩ hop hzero
    next hop => exact fieldsOf_of_decodePlain h ⟨rfl, rfl, rfl⟩ hop hzero
    next hop => exact fieldsOf_of_decodePlain h ⟨rfl, rfl, rfl⟩ hop hzero
    next hop => exact fieldsOf_of_decodePlain h ⟨rfl, rfl, rfl⟩ hop hzero
    · cases h

/-- The decoder answers a well-formed command on the word with its fields. -/
theorem decode_of_fieldsOf {w : Word} {i : Instr} (hwf : i.WellFormed = true) (h : FieldsOf i w) :
    decode w = .ok i := by
  have hzero : ¬ zeroField w ≠ 0 := not_not.2 h.zero
  rw [decode, if_neg hzero, h.op]
  cases i with
  | ldi rd imm =>
    have hrd : (rdField w).toNat ≤ 6 := h.rd ▸ of_decide_eq_true hwf
    exact (if_pos hrd).trans (by rw [h.rd, h.imm]; rfl)
  | conv => exact decodePlain_eq_ok.2 ⟨rfl, h.rd, h.imm⟩
  | intp => exact decodePlain_eq_ok.2 ⟨rfl, h.rd, h.imm⟩
  | frame => exact decodePlain_eq_ok.2 ⟨rfl, h.rd, h.imm⟩
  | run => exact decodePlain_eq_ok.2 ⟨rfl, h.rd, h.imm⟩

/-- The decoder answers a command exactly on its word. -/
theorem decode_eq_ok_iff {w : Word} {i : Instr} : decode w = .ok i ↔ i.WellFormed = true ∧ w = encode i :=
  ⟨fun h => (fieldsOf_of_decode h).imp_right fieldsOf_iff.1,
    fun ⟨hwf, hw⟩ => decode_of_fieldsOf hwf (fieldsOf_iff.2 hw)⟩

theorem decode_encode {i : Instr} (h : i.WellFormed = true) : decode (encode i) = .ok i := decode_eq_ok_iff.2 ⟨h, rfl⟩

/-- Settles O4: the fields of the encoded word are the command's, and the decoder reads nothing else. -/
theorem decodeOfEncodeIsTheCommand : Obligations.DecodeOfEncodeIsTheCommand := fun _ => decode_encode

/-- Settles O5: what the decoder answers has the word's four fields, so its own word is the same. -/
theorem encodeOfDecodeIsTheWord : Obligations.EncodeOfDecodeIsTheWord := fun _ _ h =>
  (decode_eq_ok_iff.1 h).imp_right Eq.symm

/-! ### Match and mask (R73) -/

/-- The mask of a command without fields selects the whole word. -/
theorem decode_plain_iff_mask {w : Word} {i : Instr} (hwf : i.WellFormed = true) :
    decode w = .ok i ↔ w &&& 0xFFFFFFFF#32 = encode i := by
  have hones : (0xFFFFFFFF#32) = BitVec.allOnes 32 := rfl
  rw [decode_eq_ok_iff, hones, BitVec.and_allOnes, and_iff_right hwf]

/-- LDI's mask selects `op` and `zero`. -/
theorem ldi_mask_iff (w : Word) :
    w &&& 0xF0FF0000#32 = 0x10000000#32 ↔ opField w = 1 ∧ zeroField w = 0 := by
  have hop : opField (w &&& 0xF0FF0000#32) = opField w := BitVec.extractLsb'_and.trans (BitVec.and_allOnes ..)
  have hrd : rdField (w &&& 0xF0FF0000#32) = 0 := BitVec.extractLsb'_and.trans (BitVec.and_zero ..)
  have hzero : zeroField (w &&& 0xF0FF0000#32) = zeroField w :=
    BitVec.extractLsb'_and.trans (BitVec.and_allOnes ..)
  have himm : immField (w &&& 0xF0FF0000#32) = 0 := BitVec.extractLsb'_and.trans (BitVec.and_zero ..)
  constructor
  · intro h
    rw [← hop, ← hzero, h]; decide
  · rintro ⟨h1, h0⟩
    exact word_ext_fields (hop.trans h1) hrd (hzero.trans h0) himm

/-- LDI is the decoder's answer exactly where `op` is 1, `zero` is 0 and `rd` names a register. -/
theorem decode_ldi_iff (w : Word) :
    (∃ rd imm, decode w = .ok (.ldi rd imm)) ↔ (opField w = 1 ∧ zeroField w = 0) ∧ (rdField w).toNat ≤ 6 := by
  constructor
  · rintro ⟨rd, imm, h⟩
    obtain ⟨hwf, hf⟩ := fieldsOf_of_decode h
    have hrd : rd.toNat ≤ 6 := of_decide_eq_true hwf
    exact ⟨⟨hf.op, hf.zero⟩, hf.rd ▸ hrd⟩
  · rintro ⟨⟨hop, hzero⟩, hrd⟩
    exact ⟨rdField w, immField w, decode_of_fieldsOf (decide_eq_true hrd) ⟨hop, rfl, hzero, rfl⟩⟩

/-- Settles O3: LDI's mask keeps the two fields that are fixed, and the four other masks keep the whole word. -/
theorem decodeAgreesWithMatchAndMask : Obligations.DecodeAgreesWithMatchAndMask := by
  intro w
  refine ⟨?_, decode_plain_iff_mask rfl, decode_plain_iff_mask rfl, decode_plain_iff_mask rfl,
    decode_plain_iff_mask rfl⟩
  rw [ldi_mask_iff]
  exact decode_ldi_iff w

/-! ### Illegal words (R78) -/

/-- A word is legal when one of the rows of R73 fits its fields. -/
theorem decodes_iff (w : Word) : (∃ i, decode w = .ok i) ↔
    zeroField w = 0 ∧ (((opField w).toNat = 1 ∧ (rdField w).toNat ≤ 6) ∨
      (2 ≤ (opField w).toNat ∧ (opField w).toNat ≤ 5 ∧ rdField w = 0 ∧ immField w = 0)) := by
  constructor
  · rintro ⟨i, h⟩
    obtain ⟨hwf, hop, hrd, hzero, himm⟩ := fieldsOf_of_decode h
    refine ⟨hzero, ?_⟩
    rw [hop]
    cases i with
    | ldi rd imm => exact .inl ⟨rfl, hrd ▸ of_decide_eq_true hwf⟩
    | conv => exact .inr ⟨by decide, by decide, hrd, himm⟩
    | intp => exact .inr ⟨by decide, by decide, hrd, himm⟩
    | frame => exact .inr ⟨by decide, by decide, hrd, himm⟩
    | run => exact .inr ⟨by decide, by decide, hrd, himm⟩
  · rintro ⟨hzero, ⟨hop, hrd⟩ | ⟨hlo, hhi, hrd, himm⟩⟩
    · exact ⟨.ldi (rdField w) (immField w),
        decode_of_fieldsOf (decide_eq_true hrd) ⟨opField_eq_of_toNat hop, rfl, hzero, rfl⟩⟩
    · obtain hop | hop | hop | hop : (opField w).toNat = 2 ∨ (opField w).toNat = 3 ∨ (opField w).toNat = 4 ∨
          (opField w).toNat = 5 := by omega
      · exact ⟨.conv, decode_of_fieldsOf rfl ⟨opField_eq_of_toNat hop, hrd, hzero, himm⟩⟩
      · exact ⟨.intp, decode_of_fieldsOf rfl ⟨opField_eq_of_toNat hop, hrd, hzero, himm⟩⟩
      · exact ⟨.frame, decode_of_fieldsOf rfl ⟨opField_eq_of_toNat hop, hrd, hzero, himm⟩⟩
      · exact ⟨.run, decode_of_fieldsOf rfl ⟨opField_eq_of_toNat hop, hrd, hzero, himm⟩⟩

theorem illegal_iff_not_decodes (w : Word) : Spec.Illegal w ↔ ¬ ∃ i, decode w = .ok i := not_exists.symm

theorem illegal_of_error {w : Word} {e : Reject} (h : decode w = .error e) : Spec.Illegal w := fun i => by
  rw [h]; exact nofun

theorem exists_error_of_illegal {w : Word} (h : Spec.Illegal w) : ∃ e, decode w = .error e := by
  cases hd : decode w with
  | ok i => exact absurd hd (h i)
  | error e => exact ⟨e, rfl⟩

/-- Settles O6: the four classes are the ways to miss every row of R73. -/
theorem illegalWordsAreTheFourClasses : Obligations.IllegalWordsAreTheFourClasses := by
  intro w
  have hrd : (rdField w).toNat ≤ 6 ↔ ¬ 7 ≤ (rdField w).toNat := by omega
  have hop : (opField w).toNat = 1 ∨ (2 ≤ (opField w).toNat ∧ (opField w).toNat ≤ 5) ↔
      ¬ ((opField w).toNat = 0 ∨ 6 ≤ (opField w).toNat) := by omega
  have hdisj : (opField w).toNat = 1 → ¬ 2 ≤ (opField w).toNat := by omega
  rw [illegal_iff_not_decodes, decodes_iff, hrd]
  change _ ↔ zeroField w ≠ 0 ∨ ((opField w).toNat = 0 ∨ 6 ≤ (opField w).toNat) ∨
    ((opField w).toNat = 1 ∧ 7 ≤ (rdField w).toNat) ∨
    (2 ≤ (opField w).toNat ∧ (opField w).toNat ≤ 5 ∧ (rdField w ≠ 0 ∨ immField w ≠ 0))
  tauto

/-- Settles O7: each word is computed. -/
theorem specWordsDecode : Obligations.SpecWordsDecode :=
  ⟨by decide, by decide, by decide, by decide, by decide, by decide, by decide,
    illegal_of_error (e := .noSuchRegister) (by decide), illegal_of_error (e := .zeroFieldSet) (by decide),
    illegal_of_error (e := .noSuchOp) (by decide), illegal_of_error (e := .strayOperand) (by decide),
    illegal_of_error (e := .strayOperand) (by decide), illegal_of_error (e := .zeroFieldSet) (by decide)⟩

end Sys2Proof

/-! Where a step stops, and the frames all steps share (spec/43_pwm.md R142, spec/44_sequencer.md R163,
spec/30_encoding.md R70; notes/assumptions/6.md and 7.md). -/

namespace Sys2Proof.Machine

variable {s t : State}

/-! ### Stops -/

/-- SEQ_CONV stops at level 0, where R163 has no repeat count. -/
theorem seqConv_of_level_zero {p : Params} (h : s.level = 0) : seqConv p s = .fault .levelZero := if_pos h

/-- The last sub-tick stops where no frame is left to count. -/
theorem subTick_of_no_frame (ht : 254 ≤ s.tick.toNat) (hf : s.framesLeft = 0) :
    subTick s = .fault .noFrameLeft := by
  rw [subTick_of_last (Nat.not_lt.2 ht)]; exact if_pos hf

/-- A sub-tick goes on or it is the last one with no frame left. -/
theorem subTick_outcome (s : State) :
    (∃ t, subTick s = .next t) ∨ (subTick s = .fault .noFrameLeft ∧ 254 ≤ s.tick.toNat ∧ s.framesLeft = 0) := by
  by_cases ht : s.tick.toNat < 254
  · exact .inl ⟨_, subTick_of_lt ht⟩
  · by_cases hf : s.framesLeft = 0
    · exact .inr ⟨subTick_of_no_frame (Nat.not_lt.1 ht) hf, Nat.not_lt.1 ht, hf⟩
    · exact .inl ⟨_, (subTick_of_last ht).trans (endFrame_of_ne_zero (s := s.compareLines) hf)⟩

/-- The command port never stops. -/
theorem acceptCommand_eq_next (s : State) : ∃ t, acceptCommand s = .next t := by
  cases hhost : s.host with
  | nil => exact ⟨s, acceptCommand_nil hhost⟩
  | cons w ws =>
    cases hd : decode w with
    | ok i => rw [acceptCommand_ok hhost hd]; exact exec_eq_next i _
    | error e => exact ⟨_, acceptCommand_error hhost hd⟩

/-- Everything a step can answer. -/
theorem step_outcome (s : State) :
    (∃ t, step s = .next t) ∨
    (step s = .fault .levelZero ∧ s.nextMove = .core ∧ s.pos = .seqConv ∧ s.level = 0) ∨
    (step s = .fault .noFrameLeft ∧
      s.nextMove = .core ∧ (s.pos = .frame ∨ s.pos = .seqFrame) ∧ 254 ≤ s.tick.toNat ∧ s.framesLeft = 0) := by
  cases hm : s.nextMove with
  | rst => exact .inl ⟨_, step_of_rst hm⟩
  | prox v => exact .inl ⟨_, step_of_prox hm⟩
  | core =>
    have hsub (hq : s.pos = .frame ∨ s.pos = .seqFrame) : (∃ t, step s = .next t) ∨
        (step s = .fault .noFrameLeft ∧ 254 ≤ s.tick.toNat ∧ s.framesLeft = 0) := by
      rw [step_eq_subTick hm hq]; exact subTick_outcome (Spec.turned s)
    cases hp : s.pos with
    | idle => rw [step_of_core hm, coreStep_idle (s := s.popMove) hp]; exact .inl (acceptCommand_eq_next _)
    | frame => exact (hsub (.inl hp)).imp_right fun ⟨h, hc⟩ => .inr ⟨h, rfl, .inl rfl, hc⟩
    | seqFrame => exact (hsub (.inr hp)).imp_right fun ⟨h, hc⟩ => .inr ⟨h, rfl, .inr rfl, hc⟩
    | seqConv =>
      rw [step_of_core hm, coreStep_seqConv (s := s.popMove) hp]
      rcases seqConv_cases Config.params s.popMove with ⟨hl, h⟩ | ⟨-, h⟩
      · exact .inr (.inl ⟨h, rfl, rfl, hl⟩)
      · exact .inl ⟨_, h⟩
    | seqAdv => exact .inl ⟨_, (step_of_core hm).trans (coreStep_seqAdv (s := s.popMove) hp)⟩
    | halt => exact .inl ⟨_, (step_of_core hm).trans (coreStep_halt (s := s.popMove) hp)⟩

/-- Settles O60: a step has the three outcomes of `step_outcome`, and each stop is computed from its own condition. -/
theorem stepStopsOnlyWhereARuleHasNoValue : Obligations.StepStopsOnlyWhereARuleHasNoValue := by
  intro s
  refine ⟨fun why h => ?_, ⟨fun h => ?_, ?_⟩, ⟨fun h => ?_, ?_⟩⟩
  · rcases step_outcome s with ⟨_, h'⟩ | ⟨h', -⟩ | ⟨h', -⟩ <;> cases h.symm.trans h'
  · rcases step_outcome s with ⟨_, h'⟩ | ⟨-, hc⟩ | ⟨h', -⟩
    · cases h.symm.trans h'
    · exact hc
    · cases h.symm.trans h'
  · rintro ⟨hm, hp, hl⟩
    rw [step_of_core hm, coreStep_seqConv (s := s.popMove) hp, seqConv_of_level_zero (s := s.popMove) hl]
  · rcases step_outcome s with ⟨_, h'⟩ | ⟨h', -⟩ | ⟨-, hc⟩
    · cases h.symm.trans h'
    · cases h.symm.trans h'
    · exact hc
  · rintro ⟨hm, hq, ht, hf⟩
    rw [step_eq_subTick hm hq, subTick_of_no_frame (s := Spec.turned s) ht hf]

/-! ### Frames -/

/-- No command writes the animation state, the lines or the inputs (R26, R27, R34). -/
theorem exec_frame {i : Instr} (h : exec i s = .next t) :
    t.curHue = s.curHue ∧ t.level = s.level ∧ t.lineR = s.lineR ∧ t.lineG = s.lineG ∧ t.lineB = s.lineB ∧
      t.prox = s.prox ∧ t.host = s.host ∧ t.moves = s.moves := by
  rcases exec_cases h with ⟨_, _, _, -, -, rfl⟩ | ⟨_, _, -, -, rfl⟩ | ⟨-, rfl⟩ | ⟨-, _, -, rfl⟩ | ⟨-, -, rfl⟩ |
    ⟨-, rfl⟩ | ⟨-, rfl⟩ <;> exact ⟨rfl, rfl, rfl, rfl, rfl, rfl, rfl, rfl⟩

/-- Every step takes one turn (R56). -/
theorem step_moves (h : step s = .next t) : t.moves = s.moves.tail := by
  rcases step_cases h with ⟨-, rfl⟩ | ⟨v, -, rfl⟩ | ⟨-, hturn⟩
  · rfl
  · rw [senseProx_frame]; rfl
  · rcases hturn with ⟨-, rfl⟩ | ⟨-, w, ws, i, -, -, hexec⟩ | ⟨-, w, ws, e, -, -, rfl⟩ | ⟨-, hsub⟩ |
      ⟨-, hconv⟩ | ⟨-, rfl⟩
    · rfl
    · obtain ⟨-, -, -, -, -, -, -, hmoves⟩ := exec_frame hexec
      exact hmoves
    · rfl
    · rw [(subTick_frame hsub).1]; rfl
    · rw [seqConv_frame hconv]; rfl
    · rfl

end Sys2Proof.Machine

/-! Outside IDLE a step reads neither the operand registers nor HQ nor the command port (spec/30_encoding.md R70,
spec/42_interpolate.md R129, spec/44_sequencer.md R161). -/

namespace Sys2Proof.Machine

variable {s t : State}

/-- `s` with other operand registers, another HQ and another command port: what only commands read or write. -/
def State.withCommandSide (s : State) (x : Vector Half 7) (hq : Half) (ws : List Word) : State :=
  { s with x := x, hq := hq, host := ws }

section
variable {p : Params} (x : Vector Half 7) (hq : Half) (ws : List Word)

theorem senseProx_withCommandSide (v : Bool) :
    senseProx p v (s.withCommandSide x hq ws) = (senseProx p v s).withCommandSide x hq ws := by
  cases he : isTriggerEdge p.trigEdge s.prox v with
  | true => rw [senseProx_of_edge he, senseProx_of_edge (s := s.withCommandSide x hq ws) he]; rfl
  | false => rw [senseProx_of_not_edge he, senseProx_of_not_edge (s := s.withCommandSide x hq ws) he]; rfl

theorem subTick_withCommandSide (h : subTick s = .next t) :
    subTick (s.withCommandSide x hq ws) = .next (t.withCommandSide x hq ws) := by
  rcases subTick_cases h with ⟨ht, rfl⟩ | ⟨ht, hf, rfl⟩
  · exact subTick_of_lt (s := s.withCommandSide x hq ws) ht
  · rw [subTick_of_last (s := s.withCommandSide x hq ws) (Nat.not_lt.2 ht)]
    exact endFrame_of_ne_zero (s := (s.withCommandSide x hq ws).compareLines) hf

theorem seqConv_withCommandSide (h : seqConv p s = .next t) :
    seqConv p (s.withCommandSide x hq ws) = .next (t.withCommandSide x hq ws) := by
  rcases seqConv_cases p s with ⟨-, hf⟩ | ⟨hl, hn⟩
  · cases hf.symm.trans h
  · cases hn.symm.trans h; exact if_neg hl

/-- Outside IDLE a step that is no hardware reset is the same on any command side, and leaves it. -/
theorem step_withCommandSide (hpos : s.pos ≠ .idle) (hm : s.nextMove ≠ .rst) (h : step s = .next t) :
    step (s.withCommandSide x hq ws) = .next (t.withCommandSide x hq ws) := by
  rcases step_cases h with ⟨hrst, -⟩ | ⟨v, hprox, rfl⟩ | ⟨hcore, hturn⟩
  · exact absurd hrst hm
  · rw [step_of_prox (s := s.withCommandSide x hq ws) hprox, ← senseProx_withCommandSide]; rfl
  · rw [step_of_core (s := s.withCommandSide x hq ws) hcore]
    rcases hturn with ⟨hhalt | ⟨hidle, -⟩, rfl⟩ | ⟨hidle, -⟩ | ⟨hidle, -⟩ | ⟨hq', hsub⟩ | ⟨hq', hconv⟩ | ⟨hq', rfl⟩
    · exact coreStep_halt (s := (s.withCommandSide x hq ws).popMove) hhalt
    · exact absurd hidle hpos
    · exact absurd hidle hpos
    · exact absurd hidle hpos
    · have hstep := subTick_withCommandSide x hq ws hsub
      rcases hq' with hq' | hq'
      · exact (coreStep_frame (s := (s.withCommandSide x hq ws).popMove) hq').trans hstep
      · exact (coreStep_seqFrame (s := (s.withCommandSide x hq ws).popMove) hq').trans hstep
    · exact (coreStep_seqConv (s := (s.withCommandSide x hq ws).popMove) hq').trans
        (seqConv_withCommandSide x hq ws hconv)
    · exact coreStep_seqAdv (s := (s.withCommandSide x hq ws).popMove) hq'

end

/-- With the command side a state has, the step says that it is left unchanged. -/
theorem step_keeps_commandSide (hpos : s.pos ≠ .idle) (hm : s.nextMove ≠ .rst) (h : step s = .next t) :
    t.x = s.x ∧ t.hq = s.hq ∧ t.host = s.host := by
  have hsame : (.next t : Result) = .next (t.withCommandSide s.x s.hq s.host) :=
    h.symm.trans (step_withCommandSide s.x s.hq s.host hpos hm h)
  injection hsame with hsame
  rw [hsame]; exact ⟨rfl, rfl, rfl⟩

/-- Settles O40: the step on another command side, its host's words left as they are. -/
theorem sequencerReadsNeitherOperandsNorHq : Obligations.SequencerReadsNeitherOperandsNorHq := by
  intro s t x v hpos hm h
  obtain ⟨-, -, hhost⟩ := step_keeps_commandSide hpos hm h
  have hkeep : t.withCommandSide x v s.host = { t with x := x, hq := v } := by rw [← hhost]; rfl
  rw [← hkeep]
  exact step_withCommandSide x v s.host hpos hm h

/-- Settles O11: hardware reset leaves the host's words; any other step is the same on another command side. -/
theorem busyPortIgnoresCommands : Obligations.BusyPortIgnoresCommands := by
  intro s t ws hpos h
  have hready : s.cmdReady = false := beq_eq_false_iff_ne.2 hpos
  by_cases hrst : s.nextMove = .rst
  · rw [step_of_rst hrst] at h
    cases h
    exact ⟨hready, rfl, step_of_rst (s := { s with host := ws }) hrst⟩
  · obtain ⟨hx, hhq, hhost⟩ := step_keeps_commandSide hpos hrst h
    have hkeep : t.withCommandSide s.x s.hq ws = { t with host := ws } := by rw [← hx, ← hhq]; rfl
    refine ⟨hready, hhost, ?_⟩
    rw [← hkeep]
    exact step_withCommandSide s.x s.hq ws hpos hrst h

end Sys2Proof.Machine

/-! The command port (spec/30_encoding.md R60, R70, R78): what the step that accepts a word does, and LDI
(spec/40_operands.md R90). -/

namespace Sys2Proof.Machine

variable {s t : State} {w : Word}

/-! ### Acceptance -/

/-- The step that accepts a word is the command port's. -/
theorem step_of_accepts (ha : Spec.Accepts s w) : ∃ ws, s.host = w :: ws ∧ step s = acceptCommand s.popMove := by
  obtain ⟨ws, hhost⟩ := List.head?_eq_some_iff.1 ha.valid
  exact ⟨ws, hhost, (step_of_core ha.turn).trans (coreStep_idle (s := s.popMove) ha.ready)⟩

theorem step_of_accepts_ok {i : Instr} (ha : Spec.Accepts s w) (hd : decode w = .ok i) :
    step s = exec i (Spec.taken s) := by
  obtain ⟨ws, hhost, hstep⟩ := step_of_accepts ha
  have htail : s.host.tail = ws := by rw [hhost]; rfl
  rw [hstep, acceptCommand_ok (s := s.popMove) hhost hd, ← htail]; rfl

theorem step_of_accepts_illegal (ha : Spec.Accepts s w) (hw : Spec.Illegal w) :
    step s = .next (raiseFault .illegalCmd (Spec.taken s)) := by
  obtain ⟨ws, hhost, hstep⟩ := step_of_accepts ha
  obtain ⟨e, hd⟩ := exists_error_of_illegal hw
  have htail : s.host.tail = ws := by rw [hhost]; rfl
  rw [hstep, acceptCommand_error (s := s.popMove) hhost hd, ← htail]; rfl

/-- One word stands on the port. -/
theorem accepts_unique {v : Word} (hv : Spec.Accepts s v) (hw : Spec.Accepts s w) : v = w :=
  Option.some.inj (hv.valid.symm.trans hw.valid)

/-- Everything a step that goes on can do, a command's turn given by the word it accepts. -/
theorem step_turn_cases (h : step s = .next t) :
    (s.nextMove = .rst ∧ t = hardwareReset Config.params (Spec.turned s)) ∨
    (∃ v, s.nextMove = .prox v ∧ t = senseProx Config.params v (Spec.turned s)) ∨
    (∃ w i, Spec.Accepts s w ∧ decode w = .ok i ∧ exec i (Spec.taken s) = .next t) ∨
    (∃ w, Spec.Accepts s w ∧ Spec.Illegal w ∧ t = raiseFault .illegalCmd (Spec.taken s)) ∨
    (s.nextMove = .core ∧
      (((s.pos = .halt ∨ (s.pos = .idle ∧ s.cmdPort = none)) ∧ t = Spec.turned s) ∨
       ((s.pos = .frame ∨ s.pos = .seqFrame) ∧ subTick (Spec.turned s) = .next t) ∨
       (s.pos = .seqConv ∧ seqConv Config.params (Spec.turned s) = .next t) ∨
       (s.pos = .seqAdv ∧ t = seqAdv Config.params (Spec.turned s)))) := by
  rcases step_cases h with ⟨hrst, rfl⟩ | ⟨v, hprox, rfl⟩ | ⟨hcore, hturn⟩
  · exact .inl ⟨hrst, rfl⟩
  · exact .inr (.inl ⟨v, hprox, rfl⟩)
  · rcases hturn with ⟨hwait, rfl⟩ | ⟨hidle, w, ws, i, hhost, hd, -⟩ | ⟨hidle, w, ws, e, hhost, hd, -⟩ | hsub |
      hconv | hadv
    · exact .inr (.inr (.inr (.inr ⟨hcore, .inl ⟨hwait.imp_right (.imp_right List.head?_eq_none_iff.2), rfl⟩⟩)))
    · have ha : Spec.Accepts s w := ⟨hcore, hidle, List.head?_eq_some_iff.2 ⟨ws, hhost⟩⟩
      exact .inr (.inr (.inl ⟨w, i, ha, hd, (step_of_accepts_ok ha hd).symm.trans h⟩))
    · have ha : Spec.Accepts s w := ⟨hcore, hidle, List.head?_eq_some_iff.2 ⟨ws, hhost⟩⟩
      have hw := illegal_of_error hd
      have hnext := (step_of_accepts_illegal ha hw).symm.trans h
      injection hnext with hnext
      exact .inr (.inr (.inr (.inl ⟨w, ha, hw, hnext.symm⟩)))
    · exact .inr (.inr (.inr (.inr ⟨hcore, .inr (.inl hsub)⟩)))
    · exact .inr (.inr (.inr (.inr ⟨hcore, .inr (.inr (.inl hconv))⟩)))
    · exact .inr (.inr (.inr (.inr ⟨hcore, .inr (.inr (.inr hadv))⟩)))

/-- Settles O10: the port is enabled, and it runs what the word decodes to. -/
theorem stepRunsTheDecodedCommand : Obligations.StepRunsTheDecodedCommand :=
  fun _ _ _ ha hd => step_of_accepts_ok ha hd

/-- Settles O46: the decoder refuses the word, and the port raises the fault with the word and the turn taken. -/
theorem illegalWordHalts : Obligations.IllegalWordHalts := fun _ _ ha hw => step_of_accepts_illegal ha hw

/-- Settles O12: in HALT nothing is enabled, and at IDLE the port is empty. -/
theorem waitingChangesNothing : Obligations.WaitingChangesNothing := by
  rintro s hcore (hhalt | ⟨hidle, hport⟩)
  · exact (step_of_core hcore).trans (coreStep_halt (s := s.popMove) hhalt)
  · rw [step_of_core hcore, coreStep_idle (s := s.popMove) hidle]
    exact acceptCommand_nil (s := s.popMove) (List.head?_eq_none_iff.1 hport)

/-! ### LDI -/

theorem exec_ldi {rd : BitVec 4} (imm : Half) (s : State) (h : rd.toNat < 7) :
    exec (.ldi rd imm) s = .next (s.writeX ⟨rd.toNat, h⟩ imm) := by
  rw [exec, execLdi, operandIndex_eq_some h]

/-- The operand registers after a write of one of them. -/
theorem writeX_getElem (s : State) (i j : Fin 7) (v : Half) :
    (s.writeX i v).x[j] = if i = j then v else s.x[j] := readX_writeX s i j v

/-- Settles O13: the field names register `rd`, and LDI writes that one. -/
theorem ldiWritesOneOperandRegister : Obligations.LdiWritesOneOperandRegister := by
  intro rd imm s hrd
  refine ⟨_, exec_ldi imm s (Nat.lt_succ_of_le hrd), fun j => ?_, rfl⟩
  rw [writeX_getElem]
  simp only [Fin.ext_iff, eq_comm]

/-- An LDI word whose field names no register is illegal (R78). -/
theorem illegal_encode_ldi {rd : BitVec 4} (imm : Half) (h : 7 ≤ rd.toNat) : Spec.Illegal (encode (.ldi rd imm)) := by
  have hf := fieldsOf_encode (.ldi rd imm)
  have hop : (opField (encode (.ldi rd imm))).toNat = 1 := congrArg BitVec.toNat hf.op
  have hrd : (rdField (encode (.ldi rd imm))).toNat = rd.toNat := congrArg BitVec.toNat hf.rd
  rw [illegal_iff_not_decodes, decodes_iff]
  omega

/-- Settles O14: the word by its four fields; with no register named it is illegal and the port refuses it. -/
theorem ldiEncodingAndIllegalRegister : Obligations.LdiEncodingAndIllegalRegister :=
  fun rd imm => ⟨Laws.EncodeFields.ldi_toNat rd imm,
    fun hrd _ ha => step_of_accepts_illegal ha (illegal_encode_ldi imm hrd)⟩

/-! ### FRAME and RUN -/

/-- Settles O30: FRAME's three writes (R141). -/
theorem frameStartsOneFrame : Obligations.FrameStartsOneFrame := fun _ => rfl

/-- Settles O34: RUN's one write (R161). -/
theorem runEntersTheSequencer : Obligations.RunEntersTheSequencer := fun _ => rfl

end Sys2Proof.Machine

/-! What the commands write, and who writes which register in a step (spec/10_state.md R21 to R34, R39;
spec/60_exceptions.md R190 to R193). -/

namespace Sys2Proof.Machine

variable {s t : State} {i : Instr}

/-! ### INTP's contract (R120, R121) -/

/-- The contract is that no check fails. -/
theorem intpLegal_iff (s : State) : Spec.IntpLegal s ↔
    interpolateViolation s.x[3].toNat s.x[4].toNat s.x[5].toNat s.x[6].toNat = none := by
  rw [interpolateViolation_eq_none]
  exact ⟨fun ⟨hn, ha, hb, hk⟩ => ⟨Nat.ne_of_gt hn, ha, hb, hk⟩,
    fun ⟨hn, ha, hb, hk⟩ => ⟨Nat.pos_of_ne_zero hn, ha, hb, hk⟩⟩

/-- Within the contract INTP writes the interpolated hue (R126). -/
theorem exec_intp_of_no_violation
    (hv : interpolateViolation s.x[3].toNat s.x[4].toNat s.x[5].toNat s.x[6].toNat = none) :
    exec .intp s = .next (s.writeHq (BitVec.ofNat 16
      (interpolate s.x[3].toNat s.x[4].toNat s.x[5].toNat s.x[6].toNat))) := by
  rcases execIntp_cases s with ⟨c, hc, -⟩ | ⟨-, hexec⟩
  · cases hv.symm.trans hc
  · exact hexec

/-- A fault of the interpolator has a cause. -/
theorem interpolateViolation_ne_none {a b n k : Nat} {c : Cause} (h : interpolateViolation a b n k = some c) :
    c ≠ .none := by
  rcases interpolateViolation_cases h with ⟨rfl, -⟩ | ⟨rfl, -⟩ | ⟨rfl, -⟩ <;> decide

/-! ### What each command leaves unchanged -/

/-- What command `i` can have written between `s` and `t`, register by register. -/
structure CommandWrites (i : Instr) (s t : State) : Prop where
  x : (∀ rd imm, i ≠ .ldi rd imm) → t.x = s.x
  colour : i ≠ .conv → t.r = s.r ∧ t.g = s.g ∧ t.b = s.b
  hq : i ≠ .intp → t.hq = s.hq
  counters : i ≠ .frame → t.tick = s.tick ∧ t.framesLeft = s.framesLeft
  pos : i ≠ .frame → i ≠ .run → t.pos = s.pos ∨ t.pos = .halt
  cause : i.WellFormed = true → i ≠ .intp → t.cause = s.cause

/-- A well-formed LDI names a register. -/
theorem operandIndex_ne_none {rd : BitVec 4} {imm : Half} (h : (Instr.ldi rd imm).WellFormed = true) :
    operandIndex rd ≠ none := by
  have hrd : rd.toNat ≤ 6 := of_decide_eq_true h
  rw [operandIndex_eq_some (Nat.lt_succ_of_le hrd)]; exact nofun

theorem exec_writes (h : exec i s = .next t) : CommandWrites i s t := by
  rcases exec_cases h with ⟨rd, imm, j, rfl, -, rfl⟩ | ⟨rd, imm, rfl, hnone, rfl⟩ | ⟨rfl, rfl⟩ | ⟨rfl, c, -, rfl⟩ |
    ⟨rfl, -, rfl⟩ | ⟨rfl, rfl⟩ | ⟨rfl, rfl⟩
  · exact ⟨fun hi => absurd rfl (hi rd imm), fun _ => ⟨rfl, rfl, rfl⟩, fun _ => rfl, fun _ => ⟨rfl, rfl⟩,
      fun _ _ => .inl rfl, fun _ _ => rfl⟩
  · exact ⟨fun _ => rfl, fun _ => ⟨rfl, rfl, rfl⟩, fun _ => rfl, fun _ => ⟨rfl, rfl⟩, fun _ _ => .inr rfl,
      fun hwf _ => absurd hnone (operandIndex_ne_none hwf)⟩
  · exact ⟨fun _ => rfl, fun hi => absurd rfl hi, fun _ => rfl, fun _ => ⟨rfl, rfl⟩, fun _ _ => .inl rfl,
      fun _ _ => rfl⟩
  · exact ⟨fun _ => rfl, fun _ => ⟨rfl, rfl, rfl⟩, fun _ => rfl, fun _ => ⟨rfl, rfl⟩, fun _ _ => .inr rfl,
      fun _ hi => absurd rfl hi⟩
  · exact ⟨fun _ => rfl, fun _ => ⟨rfl, rfl, rfl⟩, fun hi => absurd rfl hi, fun _ => ⟨rfl, rfl⟩, fun _ _ => .inl rfl,
      fun _ _ => rfl⟩
  · exact ⟨fun _ => rfl, fun _ => ⟨rfl, rfl, rfl⟩, fun _ => rfl, fun hi => absurd rfl hi, fun hi => absurd rfl hi,
      fun _ _ => rfl⟩
  · exact ⟨fun _ => rfl, fun _ => ⟨rfl, rfl, rfl⟩, fun _ => rfl, fun _ => ⟨rfl, rfl⟩, fun _ hi => absurd rfl hi,
      fun _ _ => rfl⟩

/-- `s` with another animation state, other lines and other inputs: what no command reads or writes. -/
def State.withSurroundings (s : State) (h : Half) (l : Byte) (lr lg lb px : Bool) (ho : List Word) (mv : List Move) :
    State :=
  { s with curHue := h, level := l, lineR := lr, lineG := lg, lineB := lb, prox := px, host := ho, moves := mv }

/-- A command does the same in other surroundings, and leaves them. -/
theorem exec_withSurroundings (he : exec i s = .next t) (h : Half) (l : Byte) (lr lg lb px : Bool) (ho : List Word)
    (mv : List Move) :
    exec i (s.withSurroundings h l lr lg lb px ho mv) = .next (t.withSurroundings h l lr lg lb px ho mv) := by
  rcases exec_cases he with ⟨rd, imm, j, rfl, hj, rfl⟩ | ⟨rd, imm, rfl, hnone, rfl⟩ | ⟨rfl, rfl⟩ | ⟨rfl, c, hv, rfl⟩ |
    ⟨rfl, hv, rfl⟩ | ⟨rfl, rfl⟩ | ⟨rfl, rfl⟩
  · simp only [exec, execLdi, hj]; rfl
  · simp only [exec, execLdi, hnone]; rfl
  · rfl
  · exact exec_intp_of_violation (s := s.withSurroundings h l lr lg lb px ho mv) hv
  · exact exec_intp_of_no_violation (s := s.withSurroundings h l lr lg lb px ho mv) hv
  · rfl
  · rfl

/-- Settles O59: the registers outside a command's reach, those it can write, and its run in other surroundings. -/
theorem commandFrames : Obligations.CommandFrames := fun _ _ _ he =>
  have hw := exec_writes he
  ⟨exec_frame he, hw.x, hw.colour, hw.hq, hw.counters, hw.pos, hw.cause, exec_withSurroundings he⟩

/-! ### Who writes a register in a step -/

/-- What a step that is no hardware reset can have written between `s` and `t`, with the writer of each register. -/
structure StepWrites (s t : State) : Prop where
  x : t.x = s.x ∨ ∃ w rd imm, Spec.Accepts s w ∧ decode w = .ok (.ldi rd imm)
  colour : (t.r = s.r ∧ t.g = s.g ∧ t.b = s.b) ∨ (∃ w, Spec.Accepts s w ∧ decode w = .ok .conv) ∨
    (s.nextMove = .core ∧ s.pos = .seqConv)
  hq : t.hq = s.hq ∨ ∃ w, Spec.Accepts s w ∧ decode w = .ok .intp
  lines : (t.lineR = s.lineR ∧ t.lineG = s.lineG ∧ t.lineB = s.lineB) ∨
    (s.nextMove = .core ∧ (s.pos = .frame ∨ s.pos = .seqFrame))
  counters : (t.tick = s.tick ∧ t.framesLeft = s.framesLeft) ∨ (∃ w, Spec.Accepts s w ∧ decode w = .ok .frame) ∨
    (s.nextMove = .core ∧ (s.pos = .seqConv ∨ s.pos = .frame ∨ s.pos = .seqFrame))
  cause : t.cause = s.cause ∨ (s.nextMove = .core ∧ s.pos = .idle ∧ t.pos = .halt)

/-- A command that writes CAUSE halts. -/
theorem exec_cause_cases (h : exec i s = .next t) : t.cause = s.cause ∨ t.pos = .halt := by
  rcases exec_cases h with ⟨_, _, _, -, -, rfl⟩ | ⟨_, _, -, -, rfl⟩ | ⟨-, rfl⟩ | ⟨-, _, -, rfl⟩ | ⟨-, -, rfl⟩ |
    ⟨-, rfl⟩ | ⟨-, rfl⟩
  · exact .inl rfl
  · exact .inr rfl
  · exact .inl rfl
  · exact .inr rfl
  · exact .inl rfl
  · exact .inl rfl
  · exact .inl rfl

/-- The writes of an accepted command, its registers told apart by whether it is the one that writes them. -/
theorem stepWrites_of_exec {w : Word} (ha : Spec.Accepts s w) (hd : decode w = .ok i)
    (h : exec i (Spec.taken s) = .next t) : StepWrites s t := by
  have hw := exec_writes h
  obtain ⟨-, -, hlineR, hlineG, hlineB, -⟩ := exec_frame h
  exact
    { x := by
        by_cases hi : ∀ rd imm, i ≠ .ldi rd imm
        · exact .inl (hw.x hi)
        · push Not at hi
          obtain ⟨rd, imm, rfl⟩ := hi
          exact .inr ⟨w, rd, imm, ha, hd⟩
      colour := (em (i = .conv)).elim (fun hi => .inr (.inl ⟨w, ha, hi ▸ hd⟩)) fun hi => .inl (hw.colour hi)
      hq := (em (i = .intp)).elim (fun hi => .inr ⟨w, ha, hi ▸ hd⟩) fun hi => .inl (hw.hq hi)
      lines := .inl ⟨hlineR, hlineG, hlineB⟩
      counters := (em (i = .frame)).elim (fun hi => .inr (.inl ⟨w, ha, hi ▸ hd⟩)) fun hi => .inl (hw.counters hi)
      cause := (exec_cause_cases h).imp_right fun hhalt => ⟨ha.turn, ha.ready, hhalt⟩ }

theorem step_writes (h : step s = .next t) (hm : s.nextMove ≠ .rst) : StepWrites s t := by
  rcases step_turn_cases h with ⟨hrst, -⟩ | ⟨v, -, rfl⟩ | ⟨w, i, ha, hd, hexec⟩ | ⟨w, ha, -, rfl⟩ | ⟨hcore, hturn⟩
  · exact absurd hrst hm
  · rw [senseProx_frame]
    exact ⟨.inl rfl, .inl ⟨rfl, rfl, rfl⟩, .inl rfl, .inl ⟨rfl, rfl, rfl⟩, .inl ⟨rfl, rfl⟩, .inl rfl⟩
  · exact stepWrites_of_exec ha hd hexec
  · exact ⟨.inl rfl, .inl ⟨rfl, rfl, rfl⟩, .inl rfl, .inl ⟨rfl, rfl, rfl⟩, .inl ⟨rfl, rfl⟩,
      .inr ⟨ha.turn, ha.ready, rfl⟩⟩
  · rcases hturn with ⟨-, rfl⟩ | ⟨hpos, hsub⟩ | ⟨hpos, hconv⟩ | ⟨-, rfl⟩
    · exact ⟨.inl rfl, .inl ⟨rfl, rfl, rfl⟩, .inl rfl, .inl ⟨rfl, rfl, rfl⟩, .inl ⟨rfl, rfl⟩, .inl rfl⟩
    · rw [(subTick_frame hsub).1]
      exact ⟨.inl rfl, .inl ⟨rfl, rfl, rfl⟩, .inl rfl, .inr ⟨hcore, hpos⟩, .inr (.inr ⟨hcore, .inr hpos⟩), .inl rfl⟩
    · rw [seqConv_frame hconv]
      exact ⟨.inl rfl, .inr (.inr ⟨hcore, hpos⟩), .inl rfl, .inl ⟨rfl, rfl, rfl⟩, .inr (.inr ⟨hcore, .inl hpos⟩),
        .inl rfl⟩
    · exact ⟨.inl rfl, .inl ⟨rfl, rfl, rfl⟩, .inl rfl, .inl ⟨rfl, rfl, rfl⟩, .inl ⟨rfl, rfl⟩, .inl rfl⟩

/-- Settles O58: each register is unchanged or its writer is named. -/
theorem registerWriters : Obligations.RegisterWriters := by
  intro s t h hm
  have hw := step_writes h hm
  refine ⟨hw.x.resolve_left, fun hne => hw.colour.resolve_left ?_, hw.hq.resolve_left,
    fun hne => hw.lines.resolve_left ?_, fun hne => hw.counters.resolve_left ?_⟩ <;> tauto

/-- Settles O49: the codes, and the writer of CAUSE, whom the invariant rules out once a cause is held: it is
held in HALT only. -/
theorem causeIsSticky : Obligations.CauseIsSticky := by
  refine ⟨⟨rfl, rfl, rfl, rfl, rfl⟩, fun s t h => ⟨fun hne => ?_, fun hinv hcause hm => ?_⟩⟩
  · by_cases hm : s.nextMove = .rst
    · exact .inl hm
    · exact .inr ((step_writes h hm).cause.resolve_left hne)
  · have hhalt : s.pos = .halt := not_not.1 (mt hinv.cause_halt.2 hcause)
    refine (step_writes h hm).cause.resolve_right fun ⟨_, hidle, _⟩ => ?_
    cases hhalt.symm.trans hidle

/-! ### Positions -/

theorem exec_pos (h : exec i s = .next t) : t.pos = s.pos ∨ t.pos = .frame ∨ t.pos = .seqConv ∨ t.pos = .halt := by
  rcases exec_cases h with ⟨_, _, _, -, -, rfl⟩ | ⟨_, _, -, -, rfl⟩ | ⟨-, rfl⟩ | ⟨-, _, -, rfl⟩ | ⟨-, -, rfl⟩ |
    ⟨-, rfl⟩ | ⟨-, rfl⟩
  · exact .inl rfl
  · exact .inr (.inr (.inr rfl))
  · exact .inl rfl
  · exact .inr (.inr (.inr rfl))
  · exact .inl rfl
  · exact .inr (.inl rfl)
  · exact .inr (.inr (.inl rfl))

theorem senseProx_pos (p : Params) (v : Bool) (s : State) : (senseProx p v s).pos = s.pos := by
  rw [senseProx_frame]; rfl

/-- The core's turn goes to a next position of R29's table. -/
theorem step_core_pos (h : step s = .next t) (hcore : s.nextMove = .core) : t.pos ∈ Spec.nextPositions s.pos := by
  rcases step_turn_cases h with ⟨hrst, -⟩ | ⟨v, hprox, -⟩ | ⟨w, i, ha, -, hexec⟩ | ⟨w, ha, -, rfl⟩ | ⟨-, hturn⟩
  · cases hcore.symm.trans hrst
  · cases hcore.symm.trans hprox
  · have hpos := exec_pos hexec
    rw [show (Spec.taken s).pos = .idle from ha.ready] at hpos
    rw [ha.ready]
    simpa [Spec.nextPositions] using hpos
  · rw [ha.ready]; exact (by decide : Pos.halt ∈ Spec.nextPositions .idle)
  · rcases hturn with ⟨hpos | ⟨hpos, -⟩, rfl⟩ | ⟨hpos, hsub⟩ | ⟨hpos, hconv⟩ | ⟨hpos, rfl⟩
    · rw [show (Spec.turned s).pos = .halt from hpos, hpos]; decide
    · rw [show (Spec.turned s).pos = .idle from hpos, hpos]; decide
    · have hnext : t.pos = s.pos ∨ t.pos = afterFrames s.pos := (subTick_frame hsub).2
      rcases hpos with hpos | hpos <;> rw [hpos] at hnext ⊢ <;> simpa [Spec.nextPositions, afterFrames] using hnext
    · rw [seqConv_frame hconv, hpos]; exact (by decide : Pos.seqFrame ∈ Spec.nextPositions .seqConv)
    · rw [hpos]; exact (by decide : Pos.seqConv ∈ Spec.nextPositions .seqAdv)

theorem step_prox_pos {v : Bool} (h : step s = .next t) (hprox : s.nextMove = .prox v) : t.pos = s.pos := by
  rw [step_of_prox hprox] at h
  cases h
  exact senseProx_pos ..

/-- Settles O56: the codes, and the next position by whose turn it is. -/
theorem positionTransitions : Obligations.PositionTransitions := by
  refine ⟨⟨rfl, rfl, rfl, rfl, rfl, rfl⟩, fun s t h => ⟨step_core_pos h, fun v => step_prox_pos h, fun hrst => ?_⟩⟩
  rw [step_of_rst hrst] at h
  cases h; rfl

/-! ### HALT -/

/-- A command halts exactly when it is an INTP outside its contract. -/
theorem exec_halts_iff (hwf : i.WellFormed = true) (hs : s.pos ≠ .halt) (h : exec i s = .next t) :
    t.pos = .halt ↔ i = .intp ∧ ¬ Spec.IntpLegal s := by
  rw [intpLegal_iff]
  rcases exec_cases h with ⟨rd, imm, j, rfl, -, rfl⟩ | ⟨rd, imm, rfl, hnone, rfl⟩ | ⟨rfl, rfl⟩ | ⟨rfl, c, hv, rfl⟩ |
    ⟨rfl, hv, rfl⟩ | ⟨rfl, rfl⟩ | ⟨rfl, rfl⟩
  · exact iff_of_false hs nofun
  · exact absurd hnone (operandIndex_ne_none hwf)
  · exact iff_of_false hs nofun
  · exact iff_of_true rfl ⟨rfl, fun hlegal => by cases hlegal.symm.trans hv⟩
  · exact iff_of_false hs fun ⟨_, hillegal⟩ => hillegal hv
  · exact iff_of_false nofun nofun
  · exact iff_of_false nofun nofun

/-- A step that accepts no word does not enter HALT. -/
theorem step_pos_ne_halt (h : step s = .next t) (hs : s.pos ≠ .halt) (hnone : ∀ w, ¬ Spec.Accepts s w) :
    t.pos ≠ .halt := by
  rcases step_turn_cases h with ⟨-, rfl⟩ | ⟨v, hprox, -⟩ | ⟨w, i, ha, -⟩ | ⟨w, ha, -⟩ | ⟨hcore, hturn⟩
  · exact nofun
  · rwa [step_prox_pos h hprox]
  · exact absurd ha (hnone w)
  · exact absurd ha (hnone w)
  · have hnext := step_core_pos h hcore
    rcases hturn with ⟨-, rfl⟩ | ⟨hpos | hpos, -⟩ | ⟨hpos, -⟩ | ⟨hpos, -⟩
    · exact hs
    all_goals
      rw [hpos] at hnext
      intro hhalt
      rw [hhalt] at hnext
      revert hnext
      decide

/-- Settles O47: an accepted word halts by what it decodes to, and no other step enters HALT. -/
theorem onlyABadCommandHalts : Obligations.OnlyABadCommandHalts := by
  intro s t hs h
  by_cases hacc : ∃ w, Spec.Accepts s w
  · obtain ⟨w, ha⟩ := hacc
    have hone (P : Word → Prop) : (∃ v, Spec.Accepts s v ∧ P v) ↔ P w :=
      ⟨fun ⟨_, hv, hp⟩ => accepts_unique hv ha ▸ hp, fun hp => ⟨w, ha, hp⟩⟩
    rw [hone fun w => Spec.Illegal w ∨ (decode w = .ok .intp ∧ ¬ Spec.IntpLegal s)]
    cases hd : decode w with
    | error e =>
      have hw := illegal_of_error hd
      rw [step_of_accepts_illegal ha hw] at h
      cases h
      exact iff_of_true rfl (.inl hw)
    | ok i =>
      rw [step_of_accepts_ok ha hd] at h
      have hlegal : Spec.IntpLegal (Spec.taken s) ↔ Spec.IntpLegal s :=
        (intpLegal_iff _).trans (intpLegal_iff s).symm
      have hnot : ¬ Spec.Illegal w := fun hw => hw i hd
      rw [exec_halts_iff (s := Spec.taken s) (decode_eq_ok_iff.1 hd).1 hs h, hlegal, Except.ok.injEq,
        or_iff_right hnot]
  · have hnone := not_exists.1 hacc
    exact iff_of_false (step_pos_ne_halt h hs hnone) fun ⟨w, ha, _⟩ => hnone w ha

end Sys2Proof.Machine

/-! The invariant of Safety.lean, kept by every step (spec/10_state.md R23, R25, R30 to R32, spec/44_sequencer.md R162,
spec/60_exceptions.md R203), and the endless run of the sequencer (R160, R161). -/

namespace Sys2Proof.Machine

variable {s t : State}

/-! ### The invariant by position -/

/-- The invariant where no frame is in progress: the counters rest. -/
theorem inv_of_rest {p : Params} (hanim : AnimationInRange p s) (hinit : s.pos.running = false → AnimationInitial p s)
    (hrest : s.pos.noFrame = true) (htick : s.tick = 0) (hframes : s.framesLeft = 0)
    (hcause : s.cause = .none ↔ s.pos ≠ .halt) (hhq : s.hq.toNat < hueMax) : Inv p s where
  animation := hanim
  initial := hinit
  tick_lt := by rw [htick]; decide
  tick_rest := fun _ => htick
  frames_rest := fun _ => hframes
  frames_frame := fun hpos => by rw [hpos] at hrest; cases hrest
  frames_seq := fun hpos => by rw [hpos] at hrest; cases hrest
  cause_halt := hcause
  hq_lt := hhq

/-- The invariant in a FRAME's frame. -/
theorem inv_of_frame {p : Params} (hanim : AnimationInRange p s) (hinit : AnimationInitial p s) (hpos : s.pos = .frame)
    (htick : s.tick.toNat < subticks) (hframes : s.framesLeft = 1) (hcause : s.cause = .none)
    (hhq : s.hq.toNat < hueMax) : Inv p s where
  animation := hanim
  initial := fun _ => hinit
  tick_lt := htick
  tick_rest := fun hrest => by rw [hpos] at hrest; cases hrest
  frames_rest := fun hrest => by rw [hpos] at hrest; cases hrest
  frames_frame := fun _ => hframes
  frames_seq := fun hseq => by cases hpos.symm.trans hseq
  cause_halt := iff_of_true hcause (by rw [hpos]; exact nofun)
  hq_lt := hhq

/-- The invariant in a frame of the sequencer. -/
theorem inv_of_seqFrame {p : Params} (hanim : AnimationInRange p s) (hpos : s.pos = .seqFrame)
    (htick : s.tick.toNat < subticks) (hframes : 1 ≤ s.framesLeft.toNat ∧ s.framesLeft.toNat ≤ p.maxLevel)
    (hcause : s.cause = .none) (hhq : s.hq.toNat < hueMax) : Inv p s where
  animation := hanim
  initial := fun hrun => by rw [hpos] at hrun; cases hrun
  tick_lt := htick
  tick_rest := fun hrest => by rw [hpos] at hrest; cases hrest
  frames_rest := fun hrest => by rw [hpos] at hrest; cases hrest
  frames_frame := fun hframe => by cases hpos.symm.trans hframe
  frames_seq := fun _ => hframes
  cause_halt := iff_of_true hcause (by rw [hpos]; exact nofun)
  hq_lt := hhq

theorem AnimationInitial.congr {p : Params} (h : AnimationInitial p s) (hh : t.curHue = s.curHue)
    (hl : t.level = s.level) : AnimationInitial p t :=
  ⟨hh.trans h.hue, hl ▸ h.level⟩

/-- The invariant speaks of these registers only, and of HQ's range. -/
theorem Inv.congr {p : Params} (h : Inv p s) (hhue : t.curHue = s.curHue) (hlevel : t.level = s.level)
    (hpos : t.pos = s.pos) (htick : t.tick = s.tick) (hframes : t.framesLeft = s.framesLeft)
    (hcause : t.cause = s.cause) (hhq : t.hq.toNat < hueMax) : Inv p t where
  animation := h.animation.congr hhue hlevel
  initial := fun hrun => (h.initial (hpos ▸ hrun)).congr hhue hlevel
  tick_lt := htick ▸ h.tick_lt
  tick_rest := fun hrest => htick.trans (h.tick_rest (hpos ▸ hrest))
  frames_rest := fun hrest => hframes.trans (h.frames_rest (hpos ▸ hrest))
  frames_frame := fun hframe => hframes.trans (h.frames_frame (hpos.symm.trans hframe))
  frames_seq := fun hseq => hframes ▸ h.frames_seq (hpos.symm.trans hseq)
  cause_halt := by rw [hcause, hpos]; exact h.cause_halt
  hq_lt := hhq

/-- Taking the turn does not enter the invariant. -/
theorem Inv.turned {p : Params} (h : Inv p s) : Inv p (Spec.turned s) := h.congr rfl rfl rfl rfl rfl rfl h.hq_lt

/-- Taking the turn and the word does not enter the invariant. -/
theorem Inv.taken {p : Params} (h : Inv p s) : Inv p (Spec.taken s) := h.congr rfl rfl rfl rfl rfl rfl h.hq_lt

/-- Outside HALT no cause is held. -/
theorem Inv.cause_eq_none {p : Params} {q : Pos} (h : Inv p s) (hpos : s.pos = q) (hq : q ≠ .halt := by decide) :
    s.cause = .none :=
  h.cause_halt.2 (hpos ▸ hq)

/-- At rest a state that keeps the animation state and the counters keeps the invariant. -/
theorem Inv.moveTo_rest {p : Params} (h : Inv p s) (hrest : s.pos.noFrame = true) (hhue : t.curHue = s.curHue)
    (hlevel : t.level = s.level) (htick : t.tick = s.tick) (hframes : t.framesLeft = s.framesLeft) (hhq : t.hq = s.hq)
    (hrest' : t.pos.noFrame = true) (hrun : t.pos.running = false → s.pos.running = false)
    (hcause : t.cause = .none ↔ t.pos ≠ .halt) : Inv p t :=
  inv_of_rest (h.animation.congr hhue hlevel) (fun hr => (h.initial (hrun hr)).congr hhue hlevel) hrest'
    (htick.trans (h.tick_rest hrest)) (hframes.trans (h.frames_rest hrest)) hcause (hhq ▸ h.hq_lt)

/-! ### Each kind of step keeps it -/

theorem hardwareReset_inv (s : State) : Inv Config.params (hardwareReset Config.params s) :=
  have hinit : AnimationInitial Config.params (hardwareReset Config.params s) := animationInitial_of_eq rfl rfl
  inv_of_rest hinit.inRange (fun _ => hinit) rfl rfl rfl (iff_of_true rfl nofun) (Nat.zero_lt_succ _)

theorem trigger_inv (h : Inv Config.params s) : Inv Config.params (trigger Config.params s) :=
  have hinit : AnimationInitial Config.params (trigger Config.params s) := animationInitial_of_eq rfl rfl
  { animation := hinit.inRange
    initial := fun _ => hinit
    tick_lt := h.tick_lt
    tick_rest := h.tick_rest
    frames_rest := h.frames_rest
    frames_frame := h.frames_frame
    frames_seq := h.frames_seq
    cause_halt := h.cause_halt
    hq_lt := h.hq_lt }

theorem senseProx_inv (v : Bool) (h : Inv Config.params s) : Inv Config.params (senseProx Config.params v s) := by
  cases he : isTriggerEdge Config.params.trigEdge s.prox v with
  | true =>
    have ht := trigger_inv h
    rw [senseProx_of_edge he]
    exact ht.congr rfl rfl rfl rfl rfl rfl ht.hq_lt
  | false =>
    rw [senseProx_of_not_edge he]
    exact h.congr rfl rfl rfl rfl rfl rfl h.hq_lt

/-- What INTP writes is a hue (R23, R125). -/
theorem interpolate_toNat_lt (a b n k : Nat) : (BitVec.ofNat 16 (interpolate a b n k)).toNat < hueMax := by
  have hlt : interpolate a b n k < 1536 := normaliseHue_lt _
  rw [BitVec.toNat_ofNat, Nat.mod_eq_of_lt (hlt.trans (by decide))]; exact hlt

theorem raiseFault_inv {p : Params} {c : Cause} (h : Inv p s) (hidle : s.pos = .idle) (hc : c ≠ .none) :
    Inv p (raiseFault c s) :=
  h.moveTo_rest (by rw [hidle]; rfl) rfl rfl rfl rfl rfl rfl (fun _ => by rw [hidle]; rfl)
    (iff_of_false hc (not_not.2 rfl))

/-- A command run at IDLE keeps the invariant. -/
theorem exec_inv {p : Params} {i : Instr} (h : Inv p s) (hidle : s.pos = .idle) (he : exec i s = .next t) :
    Inv p t := by
  have hrest : s.pos.noFrame = true := by rw [hidle]; rfl
  have hcause : s.cause = .none := h.cause_eq_none hidle
  rcases exec_cases he with ⟨_, _, _, -, -, rfl⟩ | ⟨_, _, -, -, rfl⟩ | ⟨-, rfl⟩ | ⟨-, c, hv, rfl⟩ | ⟨-, -, rfl⟩ |
    ⟨-, rfl⟩ | ⟨-, rfl⟩
  · exact h.congr rfl rfl rfl rfl rfl rfl h.hq_lt
  · exact raiseFault_inv h hidle nofun
  · exact h.congr rfl rfl rfl rfl rfl rfl h.hq_lt
  · exact raiseFault_inv h hidle (interpolateViolation_ne_none hv)
  · exact h.congr rfl rfl rfl rfl rfl rfl (interpolate_toNat_lt ..)
  · have hinit := h.initial (by rw [hidle]; rfl)
    exact inv_of_frame (h.animation.congr rfl rfl) (hinit.congr rfl rfl) rfl (Nat.zero_lt_succ _) rfl hcause h.hq_lt
  · exact h.moveTo_rest hrest rfl rfl rfl rfl rfl rfl nofun (iff_of_true hcause nofun)

/-- A sub-tick of FRAME counts to 254 and then goes to rest at IDLE: one frame was asked for. -/
theorem subTick_inv_frame {p : Params} (h : Inv p s) (hpos : s.pos = .frame) (hsub : subTick s = .next t) :
    Inv p t := by
  have hframes := h.frames_frame hpos
  have hcause : s.cause = .none := h.cause_eq_none hpos
  have hinit := h.initial (by rw [hpos]; rfl)
  rcases subTick_cases hsub with ⟨ht, rfl⟩ | ⟨-, -, rfl⟩
  · have hsucc : (s.tick + 1).toNat < subticks := by rw [subticks]; bv_omega
    exact inv_of_frame (h.animation.congr rfl rfl) (hinit.congr rfl rfl) hpos hsucc hframes hcause h.hq_lt
  · rw [hframes, if_pos rfl, hpos]
    exact inv_of_rest (h.animation.congr rfl rfl) (fun _ => hinit.congr rfl rfl) rfl rfl rfl (iff_of_true hcause nofun)
      h.hq_lt

/-- A sub-tick of the sequencer counts to 254, then starts the next frame, and after the last one goes to rest at
SEQ_ADV. -/
theorem subTick_inv_seqFrame {p : Params} (h : Inv p s) (hpos : s.pos = .seqFrame) (hsub : subTick s = .next t) :
    Inv p t := by
  obtain ⟨hone, hmax⟩ := h.frames_seq hpos
  have hcause : s.cause = .none := h.cause_eq_none hpos
  rcases subTick_cases hsub with ⟨ht, rfl⟩ | ⟨-, -, rfl⟩
  · have hsucc : (s.tick + 1).toNat < subticks := by rw [subticks]; bv_omega
    exact inv_of_seqFrame (h.animation.congr rfl rfl) hpos hsucc ⟨hone, hmax⟩ hcause h.hq_lt
  · by_cases hlast : s.framesLeft = 1
    · rw [hlast, if_pos rfl, hpos]
      exact inv_of_rest (h.animation.congr rfl rfl) nofun rfl rfl rfl (iff_of_true hcause nofun) h.hq_lt
    · have hcount : 1 ≤ (s.framesLeft - 1).toNat ∧ (s.framesLeft - 1).toNat ≤ s.framesLeft.toNat := by
        constructor <;> bv_omega
      rw [if_neg hlast]
      exact inv_of_seqFrame (h.animation.congr rfl rfl) hpos (Nat.zero_lt_succ _) (hcount.imp_right (·.trans hmax))
        hcause h.hq_lt

/-- SEQ_CONV latches a repeat count from 1 to MAX_LEVEL, which fits FRAMES_LEFT. -/
theorem seqConv_inv (h : Inv Config.params s) (hpos : s.pos = .seqConv) (hconv : seqConv Config.params s = .next t) :
    Inv Config.params t := by
  obtain ⟨hone, hmax⟩ := repeatCount_bounds h.animation.level_pos h.animation.le_maxLevel
  have hbyte := maxLevel_le_255
  have hcount : (BitVec.ofNat 8 (repeatCount Config.params s.level.toNat)).toNat =
      repeatCount Config.params s.level.toNat := Nat.mod_eq_of_lt (by omega)
  have hcause : s.cause = .none := h.cause_eq_none hpos
  cases (seqConv_of_level_pos h.animation.level_pos).symm.trans hconv
  exact inv_of_seqFrame (h.animation.congr rfl rfl) rfl (Nat.zero_lt_succ _)
    (by rw [startFrames_framesLeft]; exact hcount ▸ ⟨hone, hmax⟩) hcause h.hq_lt

/-- SEQ_ADV advances the pair within its range and stays at rest. -/
theorem seqAdv_inv (h : Inv Config.params s) (hpos : s.pos = .seqAdv) :
    Inv Config.params (seqAdv Config.params s) :=
  have hrest : s.pos.noFrame = true := by rw [hpos]; rfl
  inv_of_rest (seqAdv_inRange h.animation) nofun rfl (h.tick_rest hrest) (h.frames_rest hrest)
    (iff_of_true (h.cause_eq_none hpos) nofun) h.hq_lt

/-- Every step keeps the invariant. -/
theorem step_inv (hs : Inv Config.params s) (h : step s = .next t) : Inv Config.params t := by
  rcases step_turn_cases h with ⟨-, rfl⟩ | ⟨v, -, rfl⟩ | ⟨w, i, ha, -, hexec⟩ | ⟨w, ha, -, rfl⟩ | ⟨-, hturn⟩
  · exact hardwareReset_inv _
  · exact senseProx_inv v hs.turned
  · exact exec_inv hs.taken ha.ready hexec
  · exact raiseFault_inv hs.taken ha.ready nofun
  · rcases hturn with ⟨-, rfl⟩ | ⟨hpos | hpos, hsub⟩ | ⟨hpos, hconv⟩ | ⟨hpos, rfl⟩
    · exact hs.turned
    · exact subTick_inv_frame hs.turned hpos hsub
    · exact subTick_inv_seqFrame hs.turned hpos hsub
    · exact seqConv_inv hs.turned hpos hconv
    · exact seqAdv_inv hs.turned hpos

/-- In a frame the invariant leaves a frame to count. -/
theorem Inv.framesLeft_pos {p : Params} (h : Inv p s) (hpos : s.pos = .frame ∨ s.pos = .seqFrame) :
    1 ≤ s.framesLeft.toNat := by
  rcases hpos with hpos | hpos
  · rw [h.frames_frame hpos]; decide
  · exact (h.frames_seq hpos).1

/-- No step stops where the invariant holds. -/
theorem Inv.step_eq_next (h : Inv Config.params s) : ∃ t, step s = .next t := by
  rcases step_outcome s with hnext | ⟨-, -, -, hlevel⟩ | ⟨-, -, hpos, -, hframes⟩
  · exact hnext
  · have hpos := h.animation.level_pos
    rw [hlevel] at hpos
    cases hpos
  · have hcount := h.framesLeft_pos hpos
    rw [hframes] at hcount
    cases hcount

/-- Settles O53: the two stops are outside the invariant, and every kind of step keeps it. -/
theorem everyStepKeepsTheInvariant : Obligations.EveryStepKeepsTheInvariant := fun _ hs =>
  have ⟨t, h⟩ := hs.step_eq_next
  ⟨t, h, step_inv hs h⟩

/-- Settles O52: the state after reset is what a hardware reset leaves. -/
theorem invariantHoldsAtReset : Obligations.InvariantHoldsAtReset := hardwareReset_inv State.reset

/-! ### The endless run -/

/-- A property that every step keeps, answering a next state, holds along every run. -/
theorem runSteps_induction {P : State → Prop} (hstep : ∀ s, P s → ∃ t, step s = .next t ∧ P t) (k : Nat) (hs : P s) :
    ∃ t, runSteps k s = .next t ∧ P t := by
  induction k generalizing s with
  | zero => exact ⟨s, rfl, hs⟩
  | succ k ih =>
    obtain ⟨u, hu, hPu⟩ := hstep s hs
    obtain ⟨t, ht, hPt⟩ := ih hPu
    exact ⟨t, (runSteps_succ_of_next k hu).trans ht, hPt⟩

/-- A running sequencer with the host's words `ws` waiting and no hardware reset ahead. -/
structure RunsOn (ws : List Word) (s : State) : Prop where
  inv : Inv Config.params s
  running : s.pos.running = true
  no_rst : .rst ∉ s.moves
  host : s.host = ws

theorem nextMove_ne_rst (h : .rst ∉ s.moves) : s.nextMove ≠ .rst := by
  cases hm : s.moves with
  | nil => rw [nextMove_of_nil hm]; exact nofun
  | cons m ms =>
    rw [nextMove_of_cons hm]
    rintro rfl
    exact h (hm ▸ List.mem_cons_self)

/-- From the sequencer's positions the core's turn leads to the sequencer's positions (R162). -/
theorem running_of_nextPositions (q : Pos) : q.running = true → ∀ q' ∈ Spec.nextPositions q, q'.running = true := by
  cases q <;> decide

theorem step_keeps_running (h : step s = .next t) (hm : s.nextMove ≠ .rst) (hrun : s.pos.running = true) :
    t.pos.running = true := by
  cases hturn : s.nextMove with
  | core => exact running_of_nextPositions _ hrun _ (step_core_pos h hturn)
  | prox v => rwa [step_prox_pos h hturn]
  | rst => exact absurd hturn hm

/-- A step keeps the sequencer running: the port is busy, so no word is taken. -/
theorem RunsOn.step {ws : List Word} (hs : RunsOn ws s) : ∃ t, step s = .next t ∧ RunsOn ws t := by
  obtain ⟨t, h⟩ := hs.inv.step_eq_next
  have hm := nextMove_ne_rst hs.no_rst
  have hbusy : s.pos ≠ .idle := fun hidle => by cases hidle ▸ hs.running
  obtain ⟨-, -, hhost⟩ := step_keeps_commandSide hbusy hm h
  exact ⟨t, h, step_inv hs.inv h, step_keeps_running h hm hs.running,
    fun hrst => hs.no_rst (List.mem_of_mem_tail (step_moves h ▸ hrst)), hhost.trans hs.host⟩

/-- Settles O54: `RunsOn` is kept by every step, and a running sequencer is not in HALT. -/
theorem sequencerRunsForEver : Obligations.SequencerRunsForEver := by
  intro s k hinv hrun hrst
  obtain ⟨t, ht, hruns⟩ := runSteps_induction (fun _ => RunsOn.step) k (⟨hinv, hrun, hrst, rfl⟩ : RunsOn s.host s)
  exact ⟨⟨t, ht, fun hhalt => by cases hhalt ▸ hruns.running⟩, t, ht, hruns.running, hruns.host⟩

end Sys2Proof.Machine

/-! The trigger (spec/60_exceptions.md R199 to R205, spec/44_sequencer.md R169, spec/43_pwm.md R147) and HALT (R193). -/

namespace Sys2Proof.Machine

variable {s t : State} {v : Bool}

/-! ### The step of a level change -/

theorem step_of_edge (hprox : s.nextMove = .prox v) (he : Spec.Edge s.prox v) :
    step s = .next (Spec.withInitialAnimation ((Spec.turned s).setProx v)) := by
  rw [step_of_prox hprox, senseProx_of_edge (s := s.popMove) ((isTriggerEdge_iff_edge _ _).2 he)]; rfl

theorem step_of_not_edge (hprox : s.nextMove = .prox v) (he : ¬ Spec.Edge s.prox v) :
    step s = .next ((Spec.turned s).setProx v) := by
  have hne : isTriggerEdge Config.params.trigEdge s.popMove.prox v = false :=
    Bool.eq_false_iff.2 (mt (isTriggerEdge_iff_edge _ _).1 he)
  rw [step_of_prox hprox, senseProx_of_not_edge hne]; rfl

/-- Settles O41: the two branches of the sensed line. -/
theorem triggerStep : Obligations.TriggerStep := fun _ _ hprox => ⟨step_of_edge hprox, step_of_not_edge hprox⟩

/-! ### Where the trigger changes nothing -/

/-- The trigger writes the initial animation state over itself. -/
theorem withInitialAnimation_of_initial (h : AnimationInitial Config.params s) : Spec.withInitialAnimation s = s := by
  have hlevel : s.level = BitVec.ofNat 8 Config.params.minLevel :=
    BitVec.eq_of_toNat_eq (h.level.trans minLevel_toNat.symm)
  rw [Spec.withInitialAnimation, ← h.hue, ← hlevel]

/-- From the initial animation state a level change writes only the level. -/
theorem step_of_initial (h : AnimationInitial Config.params s) (hprox : s.nextMove = .prox v) :
    step s = .next ((Spec.turned s).setProx v) := by
  by_cases he : Spec.Edge s.prox v
  · have hinit : AnimationInitial Config.params ((Spec.turned s).setProx v) := h.congr rfl rfl
    rw [step_of_edge hprox he, withInitialAnimation_of_initial hinit]
  · exact step_of_not_edge hprox he

/-- Settles O45: in these positions the invariant says that the animation state is initial. -/
theorem triggerIsNoOpOutsideTheSequencer : Obligations.TriggerIsNoOpOutsideTheSequencer := by
  intro s v hinv hprox hpos
  have hrest : s.pos.running = false := by rcases hpos with hpos | hpos | hpos <;> rw [hpos] <;> rfl
  exact step_of_initial (hinv.initial hrest) hprox

/-! ### Triggers in succession -/

/-- From the initial animation state a train of level changes leaves the last level and nothing more. -/
theorem runSteps_levels_of_initial {vs : List Bool} {ms : List Move} (h : AnimationInitial Config.params s)
    (hmoves : s.moves = vs.map .prox ++ ms) :
    runSteps vs.length s = .next { s with prox := vs.getLastD s.prox, moves := ms } := by
  induction vs generalizing s with
  | nil => have hms : s.moves = ms := hmoves; rw [← hms]; rfl
  | cons v vs ih =>
    have htail : ((Spec.turned s).setProx v).moves = vs.map .prox ++ ms := congrArg List.tail hmoves
    rw [List.length_cons, runSteps_succ_of_next _ (step_of_initial h (nextMove_of_cons hmoves)),
      ih (s := (Spec.turned s).setProx v) (h.congr rfl rfl) htail, List.getLastD_cons]; rfl

/-- A train of level changes with an edge in it leaves the initial animation state and the last level. -/
theorem runSteps_levels_of_someEdge {vs : List Bool} {ms : List Move} (hmoves : s.moves = vs.map .prox ++ ms)
    (hedge : Spec.SomeEdge s.prox vs) :
    runSteps vs.length s = .next (Spec.withInitialAnimation { s with prox := vs.getLastD s.prox, moves := ms }) := by
  induction vs generalizing s with
  | nil => exact hedge.elim
  | cons v vs ih =>
    have hprox : s.nextMove = .prox v := nextMove_of_cons hmoves
    have htail : ((Spec.turned s).setProx v).moves = vs.map .prox ++ ms := congrArg List.tail hmoves
    rw [List.length_cons, List.getLastD_cons]
    by_cases he : Spec.Edge s.prox v
    · have hinit : AnimationInitial Config.params (Spec.withInitialAnimation ((Spec.turned s).setProx v)) :=
        animationInitial_of_eq rfl rfl
      rw [runSteps_succ_of_next _ (step_of_edge hprox he), runSteps_levels_of_initial hinit htail]; rfl
    · have hlater : Spec.SomeEdge ((Spec.turned s).setProx v).prox vs := hedge.resolve_left he
      rw [runSteps_succ_of_next _ (step_of_not_edge hprox he), ih htail hlater]; rfl

/-- Settles O42: the changes before the first edge write only the level, and those after it find the initial animation
state. -/
theorem triggerIdempotent : Obligations.TriggerIdempotent := by
  intro s v vs ms hmoves hedge
  rw [List.getLast_eq_getLastD, ← List.getLastD_cons (a := s.prox)]
  exact runSteps_levels_of_someEdge hmoves hedge

/-! ### A trigger before a read of the sequencer (R169) -/

/-- From hue 0 SEQ_ADV writes HUE_STEP: one step is below the top of the sweep. -/
theorem withAdvance_of_hue_zero (h : s.curHue = 0) :
    Spec.withAdvance s = { s with curHue := BitVec.ofNat 16 Config.params.hueStep } := by
  have hhue : s.curHue.toNat = 0 := by rw [h]; rfl
  have hlt : 0 + Config.params.hueStep < 1536 := by rw [Nat.zero_add]; exact hueStep_bounds.2
  rw [Spec.withAdvance, hhue, if_pos hlt, Nat.zero_add]

/-- At MIN_LEVEL SEQ_CONV latches MAX_LEVEL / MIN_LEVEL frames. -/
theorem seqConv_of_minLevel (h : s.level = BitVec.ofNat 8 Config.params.minLevel) :
    seqConv Config.params s = .next ((Spec.withHueColour s).startFrames
      (BitVec.ofNat 8 (Config.params.maxLevel / Config.params.minLevel)) .seqFrame) := by
  have hlevel : s.level.toNat = Config.params.minLevel := by rw [h, minLevel_toNat]
  rw [seqConv_of_level_pos (hlevel ▸ one_le_minLevel), hlevel]

/-- A trigger and then the core's turn: the core steps in the state with the initial animation state. -/
theorem runSteps_two_of_edge {ms : List Move} (hmoves : s.moves = .prox v :: .core :: ms) (he : Spec.Edge s.prox v) :
    runSteps 2 s = coreStep Config.params (Spec.withInitialAnimation { s with prox := v, moves := ms }) := by
  have hturn : (Spec.withInitialAnimation ((Spec.turned s).setProx v)).moves = .core :: ms :=
    congrArg List.tail hmoves
  have hstate : (Spec.withInitialAnimation ((Spec.turned s).setProx v)).popMove =
      Spec.withInitialAnimation { s with prox := v, moves := ms } := by
    rw [State.popMove, hturn]; rfl
  rw [runSteps_succ_of_next 1 (step_of_edge (nextMove_of_cons hmoves) he), runSteps_one,
    step_of_core (nextMove_of_cons hturn), hstate]

/-- Settles O44: the core's step reads the initial animation state, hue 0 at SEQ_ADV and MIN_LEVEL at SEQ_CONV. -/
theorem triggerBeforeASequencerRead : Obligations.TriggerBeforeASequencerRead := by
  intro s v ms hmoves hedge
  rw [runSteps_two_of_edge hmoves hedge]
  refine ⟨fun hpos => ?_, fun hpos => ?_⟩
  · rw [coreStep_seqAdv (s := Spec.withInitialAnimation { s with prox := v, moves := ms }) hpos,
      seqAdv_eq_withAdvance, withAdvance_of_hue_zero rfl]; rfl
  · rw [coreStep_seqConv (s := Spec.withInitialAnimation { s with prox := v, moves := ms }) hpos,
      seqConv_of_minLevel rfl]; rfl

/-! ### A trigger beside a step that does not read the animation state (R147, R205) -/

/-- `s` with another animation state, another level of `prox` and other turns to come. -/
def State.withAnimationSide (s : State) (h : Half) (l : Byte) (px : Bool) (mv : List Move) : State :=
  { s with curHue := h, level := l, prox := px, moves := mv }

/-- What a level change writes depends on the animation state and the level of `prox` alone. -/
theorem senseProx_withAnimationSide (p : Params) (v : Bool) (s t : State) (mv : List Move) :
    senseProx p v (t.withAnimationSide s.curHue s.level s.prox mv) =
      t.withAnimationSide (senseProx p v s).curHue (senseProx p v s).level v mv := by
  cases he : isTriggerEdge p.trigEdge s.prox v with
  | true =>
    rw [senseProx_of_edge (s := s) he, senseProx_of_edge (s := t.withAnimationSide s.curHue s.level s.prox mv) he]; rfl
  | false =>
    rw [senseProx_of_not_edge (s := s) he,
      senseProx_of_not_edge (s := t.withAnimationSide s.curHue s.level s.prox mv) he]; rfl

section
variable (h : Half) (l : Byte) (px : Bool) (mv : List Move)

theorem subTick_withAnimationSide (hsub : subTick s = .next t) :
    subTick (s.withAnimationSide h l px mv) = .next (t.withAnimationSide h l px mv) := by
  rcases subTick_cases hsub with ⟨ht, rfl⟩ | ⟨ht, hf, rfl⟩
  · exact subTick_of_lt (s := s.withAnimationSide h l px mv) ht
  · rw [subTick_of_last (s := s.withAnimationSide h l px mv) (Nat.not_lt.2 ht)]
    exact endFrame_of_ne_zero (s := (s.withAnimationSide h l px mv).compareLines) hf

/-- Outside SEQ_CONV and SEQ_ADV the core's turn is the same beside any animation state, and leaves it. -/
theorem step_withAnimationSide (hconv : s.pos ≠ .seqConv) (hadv : s.pos ≠ .seqAdv) (hcore : s.nextMove = .core)
    (hs : step s = .next t) :
    step (s.withAnimationSide h l px (.core :: mv)) = .next (t.withAnimationSide h l px mv) := by
  rcases step_turn_cases hs with ⟨hrst, -⟩ | ⟨v, hprox, -⟩ | ⟨w, i, ha, hd, hexec⟩ | ⟨w, ha, hw, rfl⟩ | ⟨-, hturn⟩
  · cases hcore.symm.trans hrst
  · cases hcore.symm.trans hprox
  · have ha' : Spec.Accepts (s.withAnimationSide h l px (.core :: mv)) w := ⟨rfl, ha.ready, ha.valid⟩
    obtain ⟨-, -, hlineR, hlineG, hlineB, -, hhost, -⟩ := exec_frame hexec
    have hkeep : t.withSurroundings h l (Spec.taken s).lineR (Spec.taken s).lineG (Spec.taken s).lineB px
        (Spec.taken s).host mv = t.withAnimationSide h l px mv := by
      rw [← hlineR, ← hlineG, ← hlineB, ← hhost]; rfl
    rw [step_of_accepts_ok ha' hd, ← hkeep]
    exact exec_withSurroundings hexec h l _ _ _ px _ mv
  · exact step_of_accepts_illegal (s := s.withAnimationSide h l px (.core :: mv)) ⟨rfl, ha.ready, ha.valid⟩ hw
  · rcases hturn with ⟨hwait, rfl⟩ | ⟨hpos, hsub⟩ | ⟨hpos, -⟩ | ⟨hpos, -⟩
    · exact waitingChangesNothing (s.withAnimationSide h l px (.core :: mv)) rfl hwait
    · rw [step_eq_subTick (s := s.withAnimationSide h l px (.core :: mv)) rfl hpos]
      exact subTick_withAnimationSide (s := Spec.turned s) h l px mv hsub
    · exact absurd hpos hconv
    · exact absurd hpos hadv

end

/-- A sub-tick that stops does so beside any animation state. -/
theorem step_noFrameLeft_withAnimationSide (h : Half) (l : Byte) (px : Bool) (mv : List Move)
    (hs : step s = .fault .noFrameLeft) :
    step (s.withAnimationSide h l px (.core :: mv)) = .fault .noFrameLeft := by
  obtain ⟨-, -, hstop⟩ := stepStopsOnlyWhereARuleHasNoValue s
  obtain ⟨-, -, hstop'⟩ := stepStopsOnlyWhereARuleHasNoValue (s.withAnimationSide h l px (.core :: mv))
  obtain ⟨-, hpos, ht, hf⟩ := hstop.1 hs
  exact hstop'.2 ⟨rfl, hpos, ht, hf⟩

/-- Settles O43: both orders are the core's step beside the animation state the level change writes; the core's step
leaves the animation state and the level for the change that comes after it. -/
theorem triggerCommutesOutsideTheReads : Obligations.TriggerCommutesOutsideTheReads := by
  intro s v ms hconv hadv
  have hfirst : step { s with moves := .prox v :: .core :: ms } = .next (s.withAnimationSide
      (senseProx Config.params v s).curHue (senseProx Config.params v s).level v (.core :: ms)) := by
    rw [← senseProx_withAnimationSide]; exact step_of_prox rfl
  rw [runSteps_succ_of_next 1 hfirst, runSteps_one]
  rcases step_outcome { s with moves := .core :: .prox v :: ms } with ⟨t, ht⟩ | ⟨-, -, hpos, -⟩ | ⟨hfault, -⟩
  · have hkeep : step { s with moves := .core :: .prox v :: ms } =
        .next (t.withAnimationSide s.curHue s.level s.prox (.prox v :: ms)) :=
      step_withAnimationSide (s := { s with moves := .core :: .prox v :: ms }) _ _ _ _ hconv hadv rfl ht
    have hsecond : step (t.withAnimationSide s.curHue s.level s.prox (.prox v :: ms)) = .next (t.withAnimationSide
        (senseProx Config.params v s).curHue (senseProx Config.params v s).level v ms) := by
      rw [← senseProx_withAnimationSide]; exact step_of_prox rfl
    rw [runSteps_succ_of_next 1 hkeep, runSteps_one, hsecond]
    exact step_withAnimationSide (s := { s with moves := .core :: .prox v :: ms }) _ _ v ms hconv hadv rfl ht
  · exact absurd hpos hconv
  · rw [runSteps_succ_of_fault 1 hfault]
    exact step_noFrameLeft_withAnimationSide (s := { s with moves := .core :: .prox v :: ms }) _ _ v ms hfault

/-! ### HALT (R193) -/

theorem status_fault_bit (h : s.pos = .halt) : s.status.extractLsb' 2 1 = 1 := by
  apply BitVec.eq_of_getLsbD_eq
  intro i hi
  obtain rfl : i = 0 := by omega
  simp [status_getLsbD, h]

/-- A level change leaves every register but the animation state, and that too when it is no edge. -/
theorem step_prox_frame (hprox : s.nextMove = .prox v) : ∃ t, step s = .next t ∧
    t = { Spec.turned s with prox := v, curHue := t.curHue, level := t.level } ∧
    (¬ Spec.Edge s.prox v → t.curHue = s.curHue ∧ t.level = s.level) := by
  by_cases he : Spec.Edge s.prox v
  · exact ⟨_, step_of_edge hprox he, rfl, fun hne => absurd he hne⟩
  · exact ⟨_, step_of_not_edge hprox he, rfl, fun _ => ⟨rfl, rfl⟩⟩

/-- Settles O48: the view of HALT, and its step by whose turn it is. -/
theorem haltIsLeftOnlyByReset : Obligations.HaltIsLeftOnlyByReset := fun s hpos =>
  ⟨by rw [State.cmdReady, hpos]; rfl, status_fault_bit hpos, status_extract_cause s,
    fun hrst => ⟨_, step_of_rst hrst, rfl, rfl⟩, fun hcore => waitingChangesNothing s hcore (.inl hpos),
    fun _ => step_prox_frame⟩

end Sys2Proof.Machine

/-! The converter's laws (spec/41_convert.md R107, R109, R110), CONV and the pseudo-instruction CONVERT (R81). -/

namespace Sys2Proof.Machine

variable {s t : State}

/-! ### CONV -/

/-- The colour of a hue, a saturation and a brightness by R108's listing. -/
theorem showColour_eq_channel (s : State) (hue sat val : Nat) : s.showColour hue sat val = s.writeColour
    (BitVec.ofNat 8 (Spec.channel hue sat val 0)) (BitVec.ofNat 8 (Spec.channel hue sat val 1))
    (BitVec.ofNat 8 (Spec.channel hue sat val 2)) := by
  rw [showColour_eq, convert_eq_channel]

/-- Settles O15: CONV shows the colour of its operands, which are `x[0]` to `x[2]`. -/
theorem convWritesConvertedColour : Obligations.ConvWritesConvertedColour :=
  fun s => congrArg _ (showColour_eq_channel s (s.operand .hue) (s.operand .sat) (s.operand .val))

/-! ### Brightness (R107) -/

theorem scale_full (w : Nat) : scale 100 w = w := Nat.mul_div_cancel w (by decide)

theorem scale_none (w : Nat) : scale 0 w = 0 := by rw [scale, Nat.mul_zero, Nat.zero_div]

/-- Settles O20: the laws of the scaling. -/
theorem brightnessScale : Obligations.BrightnessScale := fun _ w hv hw =>
  ⟨rfl, channel_mul_pct_le hw hv, scale_le hv, scale_full w, scale_none w⟩

/-! ### The ends of the percentages (R110 items 1 to 3, 5, 9) -/

theorem clampPct_of_le {v : Nat} (h : v ≤ 100) : clampPct v = v := Nat.min_eq_left h

theorem clampPct_of_ge {v : Nat} (h : 100 ≤ v) : clampPct v = 100 := Nat.min_eq_right h

/-- No saturation: every channel is blended to 255. -/
theorem channel_of_no_saturation (hue val i : Nat) : Spec.channel hue 0 val i = 255 * min val 100 / 100 := by
  rw [channel_eq_scale, white_eq_blend, clampPct_of_le (Nat.zero_le _), blend_none (raw_le _ _)]; rfl

/-- No brightness: every channel is scaled to 0. -/
theorem channel_of_no_brightness (hue sat i : Nat) : Spec.channel hue sat 0 i = 0 := by
  rw [channel_eq_scale, clampPct_of_le (Nat.zero_le _), scale_none]

/-- Full saturation and brightness: the raw value. -/
theorem channel_of_full (hue i : Nat) : Spec.channel hue 100 100 i = Spec.raw (reduceHue hue) i := by
  rw [channel_eq_scale, white_eq_blend, clampPct_of_ge le_rfl, blend_full, scale_full]

/-- Settles O22: each channel at the two ends. -/
theorem greyAndBlack : Obligations.GreyAndBlack := by
  intro hue sat val
  have hgrey (val : Nat) : convert hue 0 val =
      ⟨255 * min val 100 / 100, 255 * min val 100 / 100, 255 * min val 100 / 100⟩ := by
    simp only [convert_eq_channel, channel_of_no_saturation]
  exact ⟨hgrey val, hgrey 100, by simp only [convert_eq_channel, channel_of_no_brightness]⟩

/-- Red, green and blue in turn, the colours at the ends of the sectors (R110 item 1). -/
def primary (n : Nat) : Rgb Nat :=
  ⟨if n % 3 = 0 then 255 else 0, if n % 3 = 1 then 255 else 0, if n % 3 = 2 then 255 else 0⟩

/-- At position `pos` of sector `n` the two channels beside `n % 3` share out 255; at either end one of them has it
all. -/
theorem convert_full_of_end {n pos : Nat} (hpos : pos = 0 ∨ pos = 255) :
    convert (256 * n + pos) 100 100 = primary (n + pos / 255) := by
  have hsector : sector (reduceHue (256 * n + pos)) % 3 = n % 3 := by rw [sector_reduceHue]; omega
  have hp : sectorPos (reduceHue (256 * n + pos)) = pos := by rw [sectorPos_reduceHue]; omega
  have hrot := raw_rotations (reduceHue (256 * n + pos))
  rw [hsector, hp] at hrot
  simp only [convert_eq_channel, channel_of_full, primary]
  obtain ⟨hc, h0, h1, h2⟩ | ⟨hc, h0, h1, h2⟩ | ⟨hc, h0, h1, h2⟩ := hrot <;> rw [h0, h1, h2] <;>
    rcases hpos with rfl | rfl <;> simp [hc, Nat.add_mod]

theorem convert_sector_begin (n : Nat) : convert (256 * n) 100 100 = primary n := by
  simpa using convert_full_of_end (n := n) (.inl rfl)

theorem convert_sector_end (n : Nat) : convert (256 * n + 255) 100 100 = primary (n + 1) := by
  simpa using convert_full_of_end (n := n) (.inr rfl)

/-- Settles O21: the end of a sector and the beginning of the next show the same primary colour. -/
theorem sectorBoundaryColours : Obligations.SectorBoundaryColours := fun n =>
  ⟨convert_sector_begin n, (convert_sector_end n).trans (convert_sector_begin (n + 1)).symm⟩

/-! ### Periodicity, clamping, monotonicity (R110 items 4, 7, 8) -/

/-- `convert` sees its arguments reduced and clamped only. -/
theorem convert_congr {hue hue' sat sat' val val' : Nat} (hh : reduceHue hue = reduceHue hue')
    (hs : clampPct sat = clampPct sat') (hv : clampPct val = clampPct val') :
    convert hue sat val = convert hue' sat' val' := by
  rw [convert, convert, hh, hs, hv]

/-- Settles O23: the arguments on the two sides are reduced and clamped to the same. -/
theorem convertPeriodicAndClamped : Obligations.ConvertPeriodicAndClamped := fun hue _ _ =>
  have hfull {v : Nat} (hv : 100 ≤ v) : clampPct v = clampPct 100 :=
    (clampPct_of_ge hv).trans (clampPct_of_ge le_rfl).symm
  ⟨convert_congr (Nat.mod_mod hue 1536) rfl rfl, convert_congr (Nat.add_mod_right hue 1536) rfl rfl,
    fun hs => convert_congr rfl (hfull hs) rfl, fun hv => convert_congr rfl rfl (hfull hv)⟩

theorem blend_anti {s s' : Nat} (raw : Nat) (h : s' ≤ s) : blend s raw ≤ blend s' raw :=
  Nat.add_le_add_left (Nat.div_le_div_right (Nat.mul_le_mul_left _ (Nat.sub_le_sub_left h _))) _

theorem scale_mono {v v' w w' : Nat} (hv : v ≤ v') (hw : w ≤ w') : scale v w ≤ scale v' w' :=
  Nat.div_le_div_right (Nat.mul_le_mul hw hv)

theorem clampPct_mono {v v' : Nat} (h : v ≤ v') : clampPct v ≤ clampPct v' := min_le_min_right _ h

/-- More brightness or less saturation never lowers a channel. -/
theorem channel_mono {sat sat' val val' : Nat} (hue i : Nat) (hv : val ≤ val') (hs : sat' ≤ sat) :
    Spec.channel hue sat val i ≤ Spec.channel hue sat' val' i := by
  simp only [channel_eq_scale, white_eq_blend]
  exact scale_mono (clampPct_mono hv) (blend_anti _ (clampPct_mono hs))

/-- Settles O24: the three channels. -/
theorem convertMonotone : Obligations.ConvertMonotone := by
  intro hue sat sat' val val' hv hs
  simp only [convert_eq_channel]
  exact ⟨channel_mono hue 0 hv hs, channel_mono hue 1 hv hs, channel_mono hue 2 hv hs⟩

/-! ### CONVERT as its four commands (R81) -/

/-- With no event listed, a command's word at the head of the port runs the command. -/
theorem runSteps_accept {i : Instr} {ws : List Word} (k : Nat) (hpos : s.pos = .idle) (hmoves : s.moves = [])
    (hwf : i.WellFormed = true) (he : exec i (s.setHost ws) = .next t) :
    runSteps (k + 1) (s.setHost (encode i :: ws)) = runSteps k t := by
  have ha : Spec.Accepts (s.setHost (encode i :: ws)) (encode i) := ⟨nextMove_of_nil hmoves, hpos, rfl⟩
  have htail : (s.setHost (encode i :: ws)).moves.tail = s.moves := by rw [setHost_moves, hmoves]; rfl
  have htaken : Spec.taken (s.setHost (encode i :: ws)) = s.setHost ws := by rw [Spec.taken, htail]; rfl
  exact runSteps_succ_of_next k ((step_of_accepts_ok ha (decode_encode hwf)).trans (htaken ▸ he))

/-- LDI of a named operand register writes that register. -/
theorem exec_loadOperand (n : OpReg) (v : Half) (s : State) :
    exec (loadOperand n v) s = .next (s.writeX n.index v) := by
  cases n <;> rfl

theorem wellFormed_loadOperand (n : OpReg) (v : Half) : (loadOperand n v).WellFormed = true := by
  cases n <;> rfl

/-- The operands of CONVERT loaded, one after the other. -/
def State.loadColour (s : State) (h sa v : Half) : State := ((s.writeX 0 h).writeX 1 sa).writeX 2 v

theorem loadColour_x (s : State) (h sa v : Half) (j : Fin 7) : (s.loadColour h sa v).x[j] =
    if j = 0 then h else if j = 1 then sa else if j = 2 then v else s.x[j] := by
  simp only [State.loadColour, writeX_getElem]
  fin_cases j <;> rfl

/-- CONV after the loads shows the colour of what they loaded. -/
theorem exec_conv_loadColour (s : State) (h sa v : Half) :
    exec .conv (s.loadColour h sa v) = .next ((s.loadColour h sa v).showColour h.toNat sa.toNat v.toNat) := by
  have hhue : (s.loadColour h sa v).operand .hue = h.toNat := congrArg BitVec.toNat (loadColour_x s h sa v 0)
  have hsat : (s.loadColour h sa v).operand .sat = sa.toNat := congrArg BitVec.toNat (loadColour_x s h sa v 1)
  have hval : (s.loadColour h sa v).operand .val = v.toNat := congrArg BitVec.toNat (loadColour_x s h sa v 2)
  rw [exec, execConv, hhue, hsat, hval]

/-- An operand's load at the head of the port. -/
theorem runSteps_load {ws : List Word} (k : Nat) (n : OpReg) (v : Half) (hpos : s.pos = .idle) (hmoves : s.moves = []) :
    runSteps (k + 1) (s.setHost (encode (loadOperand n v) :: ws)) = runSteps k ((s.writeX n.index v).setHost ws) :=
  runSteps_accept k hpos hmoves (wellFormed_loadOperand n v) (exec_loadOperand n v _)

/-- The four commands of CONVERT, accepted one after the other. -/
theorem runSteps_convert {h sa v : Half} {ws : List Word} (hpos : s.pos = .idle) (hmoves : s.moves = [])
    (hhost : s.host = (Pseudo.convert h sa v).expand.map encode ++ ws) :
    runSteps 4 s = .next (((s.setHost ws).loadColour h sa v).showColour h.toNat sa.toNat v.toNat) :=
  calc runSteps 4 s
    _ = runSteps 4 (s.setHost (encode (loadOperand .hue h) :: encode (loadOperand .sat sa) ::
          encode (loadOperand .val v) :: encode .conv :: ws)) := congrArg (fun l => runSteps 4 (s.setHost l)) hhost
    _ = runSteps 3 ((s.writeX 0 h).setHost (encode (loadOperand .sat sa) :: encode (loadOperand .val v) ::
          encode .conv :: ws)) := runSteps_load 3 .hue h hpos hmoves
    _ = runSteps 2 (((s.writeX 0 h).writeX 1 sa).setHost (encode (loadOperand .val v) :: encode .conv :: ws)) :=
      runSteps_load 2 .sat sa hpos hmoves
    _ = runSteps 1 ((s.loadColour h sa v).setHost (encode .conv :: ws)) := runSteps_load 1 .val v hpos hmoves
    _ = _ := runSteps_accept 0 hpos hmoves rfl (exec_conv_loadColour (s.setHost ws) h sa v)

/-- Settles O8: three loads, then CONV of what they loaded. -/
theorem convertPseudoInstructionMeetsItsContract : Obligations.ConvertPseudoInstructionMeetsItsContract := by
  intro s h sa v ws hpos hmoves hhost
  have hx := loadColour_x (s.setHost ws) h sa v
  refine ⟨_, runSteps_convert hpos hmoves hhost, hx 0, hx 1, hx 2, fun j hj => ?_, ?_⟩
  · have h0 : j ≠ 0 := by rintro rfl; exact absurd hj (by decide)
    have h1 : j ≠ 1 := by rintro rfl; exact absurd hj (by decide)
    have h2 : j ≠ 2 := by rintro rfl; exact absurd hj (by decide)
    exact (hx j).trans (by rw [if_neg h0, if_neg h1, if_neg h2]; rfl)
  · rw [showColour_eq_channel]
    exact ⟨rfl, rfl, rfl, rfl⟩

end Sys2Proof.Machine

/-! The hue interpolator against R122 to R127 (spec/42_interpolate.md), and INTP within its contract (R126). -/

namespace Sys2Proof.Machine

variable {a b n k : Nat}

/-! ### Distances and direction (R122, R123) -/

theorem linDistance_eq_abs (a b : Nat) : (linDistance a b : Int) = |(b : Int) - a| := Int.natCast_natAbs _

/-- `arc` by the side of the half turn on which `lin` lies. -/
theorem arcDistance_cases (a b : Nat) :
    (linDistance a b ≤ 768 ∧ arcDistance a b = linDistance a b) ∨
    (768 < linDistance a b ∧ arcDistance a b = 1536 - linDistance a b) := by
  by_cases h : linDistance a b ≤ 768
  · exact .inl ⟨h, if_pos h⟩
  · exact .inr ⟨Nat.not_le.1 h, if_neg h⟩

/-- The decision table of R123 as one condition: forward where the order of the hues and the side of the half turn
agree. -/
theorem direction_cases (a b : Nat) :
    (direction a b = .forward ∧ (a ≤ b ↔ linDistance a b ≤ 768)) ∨
    (direction a b = .backward ∧ ¬ (a ≤ b ↔ linDistance a b ≤ 768)) := by
  rw [direction_eq, halfTurn]
  by_cases hab : a ≤ b <;> by_cases hl : linDistance a b ≤ 768 <;> simp [hab, hl]

/-- Settles O27: `lin` is the plain difference, `arc` the shorter way round, and the table is one condition. -/
theorem arcAndDirection : Obligations.ArcAndDirection := by
  intro a b ha hb
  have hlin := linDistance_cases a b
  have harc := arcDistance_cases a b
  refine ⟨linDistance_eq_abs a b, by omega, by omega, by omega, ?_⟩
  rcases direction_cases a b with ⟨hdir, hcond⟩ | ⟨hdir, hcond⟩
  · exact iff_of_true hdir hcond
  · exact iff_of_false (by rw [hdir]; exact nofun) hcond

/-! ### The listing (R125) -/

/-- The distance travelled is a truncated fraction, as an integer division. -/
theorem travelled_cast (arc n k : Nat) : (travelled arc n k : Int) = (arc : Int) * k / n := by
  simp [travelled]

theorem normaliseHue_cast (t : Int) : (normaliseHue t : Int) = (t + 1536) % 1536 :=
  Int.toNat_of_nonneg (Int.emod_nonneg _ (by decide))

/-- Between hues `interpolate` is the listing: the four cells of the table are the listing's four branches. -/
theorem interpolate_eq_interp (ha : a < 1536) (hb : b < 1536) (n k : Nat) :
    (interpolate a b n k : Int) = Spec.interp a b n k := by
  have hlin := linDistance_cases a b
  have hlt : linDistance a b ≤ 1536 := by omega
  have habs : Spec.lin a b = linDistance a b := (linDistance_eq_abs a b).symm
  rw [interpolate, normaliseHue_cast, Spec.interp, habs, direction_eq, halfTurn]
  rcases arcDistance_cases a b with ⟨hl, harc⟩ | ⟨hl, harc⟩ <;> by_cases hab : a ≤ b <;>
    simp [hl, Nat.not_le.2, hab, harc, Direction.advance, travelled_cast, Nat.cast_sub hlt]

/-- Settles O25: the contract excludes every fault, and the value written is the listing's, a hue. -/
theorem intpWritesInterpolatedHue : Obligations.IntpWritesInterpolatedHue := by
  intro s hlegal
  have hinterp := interpolate_eq_interp hlegal.start_lt hlegal.stop_lt s.x[5].toNat s.x[6].toNat
  have hhue : interpolate s.x[3].toNat s.x[4].toNat s.x[5].toNat s.x[6].toNat < 1536 := normaliseHue_lt _
  refine ⟨?_, by omega, by omega⟩
  rw [exec_intp_of_no_violation ((intpLegal_iff s).1 hlegal), ← hinterp, BitVec.ofInt_natCast]; rfl

/-! ### Where the result lies (R124, R127) -/

/-- `b` lies `d` units further than `a` on the hue circle, at most one turn counted off. -/
def Further (a b d : Nat) : Prop := b = a + d ∨ b + 1536 = a + d

/-- Up to a half turn, the way from one hue to another is the shorter one. -/
theorem arcDistance_of_further {d : Nat} (hd : d ≤ 768) (h : Further a b d ∨ Further b a d) : arcDistance a b = d := by
  unfold Further at h
  have hlin := linDistance_cases a b
  have harc := arcDistance_cases a b
  omega

/-- The direction of travel is that of the shorter way: it leads from one hue to the other (R122, R123). -/
theorem direction_leads (ha : a < 1536) (hb : b < 1536) :
    (direction a b = .forward ∧ Further a b (arcDistance a b)) ∨
    (direction a b = .backward ∧ Further b a (arcDistance a b)) := by
  unfold Further
  have hlin := linDistance_cases a b
  have harc := arcDistance_cases a b
  rcases direction_cases a b with ⟨hdir, hcond⟩ | ⟨hdir, hcond⟩
  · exact .inl ⟨hdir, by omega⟩
  · exact .inr ⟨hdir, by omega⟩

/-- Travel moves the hue by `off` in its direction (R124). -/
theorem further_of_travel {off : Nat} (ha : a < 1536) (hoff : off ≤ 768) :
    Further a (normaliseHue (Direction.forward.advance a off)) off ∧
      Further (normaliseHue (Direction.backward.advance a off)) a off := by
  simp only [Further, Direction.advance, normaliseHue, hueMax]; omega

/-- Two hues further than a third: they are the difference apart. -/
theorem further_sub {c d e : Nat} (hb : b < 1536) (hc : c < 1536) (hde : d ≤ e) (h : Further a b d)
    (h' : Further a c e) : Further b c (e - d) := by
  unfold Further at *; omega

/-- Two hues before a third: they are the difference apart. -/
theorem further_sub_of_before {c d e : Nat} (hb : b < 1536) (hc : c < 1536) (hde : d ≤ e) (h : Further b a d)
    (h' : Further c a e) : Further c b (e - d) := by
  unfold Further at *; omega

/-- `off` units from `a` along the shorter way to `b`, at most all of them: the result lies `off` from `a` and the
rest of the arc from `b`. -/
theorem arcDistance_of_travel {off : Nat} (ha : a < 1536) (hb : b < 1536) (hoff : off ≤ arcDistance a b) :
    arcDistance a (normaliseHue ((direction a b).advance a off)) = off ∧
      arcDistance (normaliseHue ((direction a b).advance a off)) b = arcDistance a b - off := by
  have hmax := arcDistance_le a b
  have hrest : arcDistance a b - off ≤ 768 := (Nat.sub_le _ _).trans hmax
  obtain ⟨hfwd, hbwd⟩ := further_of_travel ha (hoff.trans hmax)
  rcases direction_leads ha hb with ⟨hdir, hway⟩ | ⟨hdir, hway⟩ <;> rw [hdir]
  · exact ⟨arcDistance_of_further (hoff.trans hmax) (.inl hfwd),
      arcDistance_of_further hrest (.inl (further_sub (normaliseHue_lt _) hb hoff hfwd hway))⟩
  · exact ⟨arcDistance_of_further (hoff.trans hmax) (.inr hbwd),
      arcDistance_of_further hrest (.inr (further_sub_of_before (normaliseHue_lt _) hb hoff hbwd hway))⟩

/-- Nothing travelled: the start. -/
theorem normaliseHue_advance_zero (d : Direction) (ha : a < 1536) : normaliseHue (d.advance a (0 : Nat)) = a := by
  have hlt := normaliseHue_lt (d.advance a (0 : Nat))
  obtain ⟨hfwd, hbwd⟩ := further_of_travel ha (Nat.zero_le 768)
  unfold Further at hfwd hbwd
  cases d <;> omega

/-- Two hues no arc apart are the same. -/
theorem eq_of_arcDistance_eq_zero (ha : a < 1536) (hb : b < 1536) (h : arcDistance a b = 0) : a = b := by
  have hlin := linDistance_cases a b
  have harc := arcDistance_cases a b
  omega

theorem arcDistance_self (a : Nat) : arcDistance a a = 0 := by
  have hlin := linDistance_cases a a
  have harc := arcDistance_cases a a
  omega

/-- Settles O29: `interpolate` travels `off` = arc × k / n, which is at most the arc. -/
theorem interpolateTravelsTheShorterArc : Obligations.InterpolateTravelsTheShorterArc :=
  fun _ _ _ _ ha hb _ hk => arcDistance_of_travel ha hb (travelled_le hk)

/-- Settles O28: at k = 0 and at zero distance nothing is travelled; at k = n no arc is left to the stop. -/
theorem interpolateExactAtBothEnds : Obligations.InterpolateExactAtBothEnds := by
  intro a b n k ha hb hn hk
  have hrange : interpolate a b n n < 1536 := normaliseHue_lt _
  refine ⟨?_, eq_of_arcDistance_eq_zero hrange hb ?_, ?_, normaliseHue_lt _⟩
  · rw [interpolate, travelled, Nat.mul_zero, Nat.zero_div, normaliseHue_advance_zero _ ha]
  · obtain ⟨-, hrest⟩ := interpolateTravelsTheShorterArc a b n n ha hb hn le_rfl
    rw [hrest, Nat.mul_div_cancel _ hn, Nat.sub_self]
  · rw [interpolate, travelled, arcDistance_self, Nat.zero_mul, Nat.zero_div, normaliseHue_advance_zero _ ha]

end Sys2Proof.Machine

/-! Runs of sub-ticks (spec/43_pwm.md R142, R143): the counters in closed form, the frame of FRAME, and the duty
cycle. -/

namespace Sys2Proof.Machine

variable {s : State}

/-! ### A run of frames -/

/-- `s` in a run of `n` frames when `k` of the run's sub-ticks have been taken. -/
def State.inFrames (s : State) (n k : Nat) : State :=
  { s with tick := BitVec.ofNat 8 (k % 255), framesLeft := BitVec.ofNat 8 (n - k / 255) }

/-- `s` when the frames asked for are done. -/
def State.framesDone (s : State) : State := { s with tick := 0, framesLeft := 0, pos := afterFrames s.pos }

/-- With no event listed, a turn is taken by leaving the empty list as it is. -/
theorem turned_of_nil (hmoves : s.moves = []) : Spec.turned s = s := by
  have htail : s.moves.tail = s.moves := by rw [hmoves]; rfl
  rw [Spec.turned, htail]

section
variable {n k : Nat}

theorem inFrames_tick_toNat (s : State) (n k : Nat) : (s.inFrames n k).tick.toNat = k % 255 :=
  Nat.mod_eq_of_lt ((Nat.mod_lt k (by decide)).trans (by decide))

theorem inFrames_framesLeft_toNat (s : State) (k : Nat) (hn : n ≤ 255) :
    (s.inFrames n k).framesLeft.toNat = n - k / 255 :=
  Nat.mod_eq_of_lt (by omega)

/-- The tick of R142's listing, as the number of sub-ticks taken. -/
theorem subTick_inFrames (hn : n ≤ 255) (hk : k + 1 < 255 * n) (s : State) :
    subTick (s.inFrames n k) = .next (Spec.withLines (k % 255) (s.inFrames n (k + 1))) := by
  have ht := inFrames_tick_toNat s n k
  have hf := inFrames_framesLeft_toNat s k hn
  by_cases hlast : k % 255 = 254
  · have hmod : (k + 1) % 255 = 0 := by omega
    have hdiv : (k + 1) / 255 = k / 255 + 1 := by omega
    have hmore : n - k / 255 ≠ 1 := by omega
    rw [subTick_last (ht.trans hlast) (by omega), hf, if_neg hmore, hlast, State.inFrames, State.inFrames, hmod, hdiv,
      Nat.sub_add_eq]; rfl
  · have hmod : (k + 1) % 255 = k % 255 + 1 := by omega
    have hdiv : (k + 1) / 255 = k / 255 := by omega
    rw [subTick_inside (by omega), ht, State.inFrames, State.inFrames, hmod, hdiv]; rfl

/-- The last sub-tick of the run. -/
theorem subTick_inFrames_last (hn : n ≤ 255) (hk : k + 1 = 255 * n) (s : State) :
    subTick (s.inFrames n k) = .next (Spec.withLines 254 s.framesDone) := by
  have ht := inFrames_tick_toNat s n k
  have hf := inFrames_framesLeft_toNat s k hn
  have hone : n - k / 255 = 1 := by omega
  rw [subTick_last (by omega) (by omega), hf, hone, if_pos rfl]; rfl

/-- With no event listed, a step in a run of frames is a sub-tick. -/
theorem step_inFrames (hmoves : s.moves = []) (hpos : s.pos = .frame ∨ s.pos = .seqFrame) (n k : Nat) :
    step (s.inFrames n k) = subTick (s.inFrames n k) := by
  rw [step_eq_subTick (s := s.inFrames n k) (nextMove_of_nil hmoves) hpos, turned_of_nil (s := s.inFrames n k) hmoves]

/-- The lines and the counters of a run are written apart. -/
theorem withLines_inFrames (s : State) (m n k : Nat) :
    Spec.withLines m (s.inFrames n k) = (Spec.withLines m s).inFrames n k := rfl

/-- Sub-ticks from the start of a run of `n` frames, with no event between: after each the lines are those of its
counter. -/
theorem runSteps_inFrames (hmoves : s.moves = []) (hpos : s.pos = .frame ∨ s.pos = .seqFrame) (hn : n ≤ 255)
    (hk : k + 1 < 255 * n) :
    runSteps (k + 1) (s.inFrames n 0) = .next (Spec.withLines (k % 255) (s.inFrames n (k + 1))) := by
  induction k with
  | zero => rw [runSteps_one, step_inFrames hmoves hpos, subTick_inFrames hn hk]
  | succ k ih =>
    rw [runSteps_add 1 (ih (by omega)), runSteps_one, withLines_inFrames,
      step_inFrames (s := Spec.withLines (k % 255) s) hmoves hpos, subTick_inFrames hn hk]; rfl

/-- A run of `n` frames takes 255 × n sub-ticks. -/
theorem runSteps_frames (hmoves : s.moves = []) (hpos : s.pos = .frame ∨ s.pos = .seqFrame) (hn : n ≤ 255)
    (hone : 1 ≤ n) : runSteps (255 * n) (s.inFrames n 0) = .next (Spec.withLines 254 s.framesDone) := by
  obtain ⟨k, hk⟩ : ∃ k, 255 * n = k + 1 + 1 := ⟨255 * n - 2, by omega⟩
  rw [hk, runSteps_add 1 (runSteps_inFrames hmoves hpos hn (by omega)), runSteps_one, withLines_inFrames,
    step_inFrames (s := Spec.withLines (k % 255) s) hmoves hpos, subTick_inFrames_last hn hk.symm]; rfl

end

/-! ### FRAME (R143) -/

/-- The state in which an accepted FRAME starts its frame. -/
def State.frameStarted (s : State) (ws : List Word) : State := (s.setHost ws).startFrames 1 .frame

theorem runSteps_frame {ws : List Word} (k : Nat) (hpos : s.pos = .idle) (hmoves : s.moves = [])
    (hhost : s.host = encode .frame :: ws) : runSteps (k + 1) s = runSteps k ((s.frameStarted ws).inFrames 1 0) := by
  have hs : s = s.setHost (encode .frame :: ws) := by rw [← hhost]; rfl
  rw [hs]
  exact runSteps_accept k hpos hmoves rfl rfl

/-- Settles O32: FRAME asks for a run of one frame. -/
theorem frameIs255SubTicks : Obligations.FrameIs255SubTicks := by
  intro s ws hpos hmoves hhost
  have hrun (k : Nat) := runSteps_frame k hpos hmoves hhost
  refine ⟨hrun 0, fun k hk => ?_, ?_⟩
  · have hmod : (k + 1) % 255 = k + 1 := Nat.mod_eq_of_lt (by omega)
    have hdiv : (k + 1) / 255 = 0 := Nat.div_eq_of_lt (by omega)
    rw [hrun, runSteps_inFrames (s := s.frameStarted ws) hmoves (.inl rfl) (by decide) (by omega), State.inFrames, hmod,
      hdiv, Nat.mod_eq_of_lt (by omega)]; rfl
  · rw [hrun]
    exact runSteps_frames (s := s.frameStarted ws) (n := 1) hmoves (.inl rfl) (by decide) (by decide)

/-! ### The duty cycle (R143) -/

theorem after_of_runSteps {n : Nat} {t : State} (h : runSteps n s = .next t) : Spec.after n s = some t := by
  rw [Spec.after, h]

/-- Sub-tick `k` of the frame leaves the lines of counter `k`, in the colour the frame started with. -/
theorem after_frame {ws : List Word} {k : Nat} (hpos : s.pos = .idle) (hmoves : s.moves = [])
    (hhost : s.host = encode .frame :: ws) (hk : k < 255) :
    ∃ t : State, Spec.after (k + 2) s = some (Spec.withLines k t) ∧ t.r = s.r ∧ t.g = s.g ∧ t.b = s.b := by
  obtain ⟨-, hinside, hlast⟩ := frameIs255SubTicks s ws hpos hmoves hhost
  by_cases h : k < 254
  · exact ⟨_, after_of_runSteps (hinside k h), rfl, rfl, rfl⟩
  · obtain rfl : k = 254 := by omega
    exact ⟨_, after_of_runSteps hlast, rfl, rfl, rfl⟩

/-- A line that is compared with channel value `c` at each counter is active in `c` of the sub-ticks. -/
theorem activeSubTicks_eq {line : State → Bool} {c : Byte}
    (hline : ∀ k < 255, (Spec.after (k + 2) s).any line = decide (k < c.toNat)) :
    Spec.activeSubTicks line s = c.toNat := by
  have hc : min 255 c.toNat = c.toNat := Nat.min_eq_right (Nat.le_of_lt_succ c.isLt)
  rw [Spec.activeSubTicks, List.filter_congr fun k hk => hline k (List.mem_range.1 hk), ← List.Ico.zero_bot,
    List.Ico.filter_lt, List.Ico.length, hc, Nat.sub_zero]

/-- Settles O33: each line is its channel's comparison at every counter of the frame. -/
theorem dutyCycleIsTheIntensity : Obligations.DutyCycleIsTheIntensity := by
  intro s ws hpos hmoves hhost
  refine ⟨activeSubTicks_eq fun k hk => ?_, activeSubTicks_eq fun k hk => ?_, activeSubTicks_eq fun k hk => ?_⟩ <;>
    obtain ⟨t, ht, hr, hg, hb⟩ := after_frame hpos hmoves hhost hk <;> rw [ht]
  · rw [← hr]; rfl
  · rw [← hg]; rfl
  · rw [← hb]; rfl

end Sys2Proof.Machine

/-! The hue step, the sweep and the level ramp (spec/44_sequencer.md R162, R167, R168). -/

namespace Sys2Proof.Machine

variable {s : State}

/-! ### A hue step (R162) -/

/-- The state in which SEQ_CONV starts the frames of a hue step. -/
def State.hueFrames (s : State) : State := (Spec.withHueColour s).setPos .seqFrame

/-- The repeat count of R163 fits FRAMES_LEFT and is not 0. -/
theorem rep_bounds (h : AnimationInRange Config.params s) : 1 ≤ Spec.rep s ∧ Spec.rep s ≤ 255 := by
  obtain ⟨hone, hmax⟩ := repeatCount_bounds h.level_pos h.le_maxLevel
  exact ⟨hone, hmax.trans maxLevel_le_255⟩

/-- With no event listed the core steps in the state as it is. -/
theorem step_of_nil (hmoves : s.moves = []) : step s = coreStep Config.params s := by
  rw [step_of_core (nextMove_of_nil hmoves), show s.popMove = s from turned_of_nil hmoves]

/-- SEQ_CONV starts a run of `rep` frames. -/
theorem step_seqConv (h : AnimationInRange Config.params s) (hpos : s.pos = .seqConv) (hmoves : s.moves = []) :
    step s = .next (s.hueFrames.inFrames (Spec.rep s) 0) := by
  rw [step_of_nil hmoves, coreStep_seqConv hpos, seqConv_of_level_pos h.level_pos]; rfl

/-- What SEQ_ADV writes depends on the animation state alone. -/
theorem withAdvance_congr {t : State} (hhue : t.curHue = s.curHue) (hlevel : t.level = s.level) : Spec.withAdvance t =
    t.writeAnimation (Spec.withAdvance s).curHue (Spec.withAdvance s).level := by
  by_cases h : s.curHue.toNat + Config.params.hueStep < 1536
  · simp only [Spec.withAdvance, hhue, if_pos h, ← hlevel]; rfl
  · simp only [Spec.withAdvance, hhue, hlevel, if_neg h]; rfl

theorem eq_startFrames (htick : s.tick = 0) : s = s.startFrames s.framesLeft s.pos := by
  rw [State.startFrames, ← htick]

/-- At SEQ_CONV a state of the invariant has its counters at rest, so SEQ_ADV's way back to SEQ_CONV ends where the hue
step began, but for the colour, the lines and the animation state. -/
theorem seqAdv_framesDone (h : Inv Config.params s) (hpos : s.pos = .seqConv) :
    seqAdv Config.params (Spec.withLines 254 s.hueFrames.framesDone) =
      Spec.withLines 254 (Spec.withAdvance (Spec.withHueColour s)) := by
  have hrest : s.pos.noFrame = true := by rw [hpos]; rfl
  have hdone : (Spec.withLines 254 s.hueFrames.framesDone).setPos .seqConv =
      Spec.withLines 254 (Spec.withHueColour s) := by
    have hcounters := eq_startFrames (s := Spec.withLines 254 (Spec.withHueColour s)) (h.tick_rest hrest)
    have hframes : (Spec.withLines 254 (Spec.withHueColour s)).framesLeft = 0 := h.frames_rest hrest
    have hconv : (Spec.withLines 254 (Spec.withHueColour s)).pos = .seqConv := hpos
    rw [hcounters, hframes, hconv]; rfl
  rw [seqAdv_eq_withAdvance, withAdvance_congr (t := Spec.withLines 254 s.hueFrames.framesDone) (s := s) rfl rfl,
    withAdvance_congr (t := Spec.withHueColour s) (s := s) rfl rfl]
  exact congrArg (·.writeAnimation (Spec.withAdvance s).curHue (Spec.withAdvance s).level) hdone

/-- The frames of a hue step, then SEQ_ADV. -/
theorem runSteps_hueStep (h : Inv Config.params s) (hpos : s.pos = .seqConv) (hmoves : s.moves = []) :
    runSteps (255 * Spec.rep s + 1) s = .next (Spec.withLines 254 s.hueFrames.framesDone) ∧
    runSteps (255 * Spec.rep s + 2) s = .next (Spec.withLines 254 (Spec.withAdvance (Spec.withHueColour s))) := by
  obtain ⟨hone, hmax⟩ := rep_bounds h.animation
  have hframes : runSteps (255 * Spec.rep s + 1) s = .next (Spec.withLines 254 s.hueFrames.framesDone) := by
    rw [runSteps_succ_of_next _ (step_seqConv h.animation hpos hmoves)]
    exact runSteps_frames (s := s.hueFrames) hmoves (.inr rfl) hmax hone
  have hadv : step (Spec.withLines 254 s.hueFrames.framesDone) =
      .next (Spec.withLines 254 (Spec.withAdvance (Spec.withHueColour s))) := by
    rw [step_of_nil (s := Spec.withLines 254 s.hueFrames.framesDone) hmoves, coreStep_seqAdv rfl,
      seqAdv_framesDone h hpos]
  exact ⟨hframes, by rw [runSteps_add 1 hframes, runSteps_one, hadv]⟩

/-- Settles O37: SEQ_CONV starts a run of `rep` frames, each sub-tick of it keeps the colour, and SEQ_ADV ends it. -/
theorem hueStepIsOneCycle : Obligations.HueStepIsOneCycle := by
  intro s h hpos hmoves
  obtain ⟨hframes, hcycle⟩ := runSteps_hueStep h hpos hmoves
  obtain ⟨-, hmax⟩ := rep_bounds h.animation
  refine ⟨fun k hk => ?_, ⟨_, hframes, rfl⟩, hcycle⟩
  rw [runSteps_succ_of_next _ (step_seqConv h.animation hpos hmoves)]
  cases k with
  | zero => exact ⟨_, rfl, rfl, rfl⟩
  | succ k => exact ⟨_, runSteps_inFrames (s := s.hueFrames) hmoves (.inr rfl) hmax hk, rfl, rfl⟩

/-! ### A sweep (R167) -/

/-- The number of hue steps in a sweep: the last one is the first that reaches the top. -/
theorem stepsPerSweep_eq_succ {p : Params} (hp : 1 ≤ p.hueStep) :
    ∃ m, Spec.stepsPerSweep p = m + 1 ∧ m * p.hueStep < 1536 ∧ ¬ m * p.hueStep + p.hueStep < 1536 := by
  have hpos : 1 ≤ Spec.stepsPerSweep p := Nat.div_pos (by omega) hp
  obtain ⟨m, hm⟩ := Nat.exists_eq_add_of_le' hpos
  have hle : (m + 1) * p.hueStep ≤ 1536 + p.hueStep - 1 := hm ▸ Nat.div_mul_le_self _ _
  have hlt : 1536 + p.hueStep - 1 < (m + 1) * p.hueStep + p.hueStep := hm ▸ Nat.lt_div_mul_add hp
  rw [Nat.succ_mul] at hle hlt
  exact ⟨m, hm, by omega, by omega⟩

/-- At the beginning of a hue step, with the pair (CUR_HUE, LEVEL) at `pair` and no event listed. -/
structure AtHue (pair : Nat × Nat) (s : State) : Prop where
  inv : Inv Config.params s
  pos : s.pos = .seqConv
  moves : s.moves = []
  pair : (s.curHue.toNat, s.level.toNat) = pair

/-- The pair that SEQ_ADV writes, as numbers: it fits its registers. -/
theorem withAdvance_pair (h : AnimationInRange Config.params s) :
    ((Spec.withAdvance s).curHue.toNat, (Spec.withAdvance s).level.toNat) =
      advancePair Config.params (s.curHue.toNat, s.level.toNat) := by
  obtain ⟨hhue, -, hmax⟩ := advancePair_inRange (h := s.curHue.toNat) h.minLevel_le h.le_maxLevel
  have hbyte := maxLevel_le_255
  have heq := seqAdv_eq_withAdvance s
  have hcur : (seqAdv Config.params s).curHue.toNat = (advancePair Config.params (s.curHue.toNat, s.level.toNat)).1 :=
    Nat.mod_eq_of_lt (hhue.trans (by decide))
  have hlev : (seqAdv Config.params s).level.toNat = (advancePair Config.params (s.curHue.toNat, s.level.toNat)).2 :=
    Nat.mod_eq_of_lt (by omega)
  rw [heq] at hcur hlev
  exact Prod.ext hcur hlev

/-- A hue step at `pair` ends at the beginning of the next one, with the pair advanced. -/
theorem AtHue.hueStep {pair : Nat × Nat} (h : AtHue pair s) :
    ∃ t, runSteps (255 * (Config.params.maxLevel / pair.2) + 2) s = .next t ∧
      AtHue (advancePair Config.params pair) t := by
  obtain ⟨hinv, hpos, hmoves, rfl⟩ := h
  obtain ⟨-, hcycle⟩ := runSteps_hueStep hinv hpos hmoves
  obtain ⟨t, ht, hinv'⟩ := runSteps_induction everyStepKeepsTheInvariant (255 * Spec.rep s + 2) hinv
  cases hcycle.symm.trans ht
  refine ⟨_, hcycle, hinv', ?_, ?_, ?_⟩ <;> rw [withAdvance_congr (t := Spec.withHueColour s) (s := s) rfl rfl]
  · exact hpos
  · exact hmoves
  · exact withAdvance_pair hinv.animation

/-- Hue steps below the top of the sweep keep the level, so each takes as many steps as the first. -/
theorem AtHue.hueSteps {l : Nat} (h : AtHue (0, l) s) (j : Nat) (hj : j * Config.params.hueStep < 1536) :
    ∃ t, runSteps (j * (255 * (Config.params.maxLevel / l) + 2)) s = .next t ∧
      AtHue (j * Config.params.hueStep, l) t := by
  induction j with
  | zero => exact ⟨s, by rw [Nat.zero_mul]; rfl, by rwa [Nat.zero_mul]⟩
  | succ j ih =>
    rw [Nat.succ_mul] at hj ⊢
    obtain ⟨u, hu, hatu⟩ := ih (by omega)
    obtain ⟨t, ht, hatt⟩ := hatu.hueStep
    rw [advancePair_of_lt hj] at hatt
    exact ⟨t, (runSteps_add _ hu).trans ht, by rwa [Nat.succ_mul]⟩

/-- Settles O38: all the hue steps but the last stay below the top, and the last one wraps. -/
theorem sweepStepsTheLevel : Obligations.SweepStepsTheLevel := by
  intro s hinv hpos hmoves hhue
  obtain ⟨m, hN, hbelow, htop⟩ := stepsPerSweep_eq_succ hueStep_bounds.1
  have hat : AtHue (0, s.level.toNat) s := ⟨hinv, hpos, hmoves, by rw [hhue]; rfl⟩
  obtain ⟨u, hu, hatu⟩ := hat.hueSteps m hbelow
  obtain ⟨t, ht, hatt⟩ := hatu.hueStep
  rw [advancePair_of_ge htop] at hatt
  obtain ⟨hcur, hlevel⟩ := Prod.ext_iff.1 hatt.pair
  refine ⟨t, ?_, hatt.pos, BitVec.eq_of_toNat_eq hcur, hlevel⟩
  rw [hN, Nat.succ_mul]
  exact (runSteps_add _ hu).trans ht

/-! ### The level ramp (R168) -/

section
variable {p : Params}

theorem iterate_advancePair_below (l j : Nat) (hj : j * p.hueStep < 1536) :
    (advancePair p)^[j] (0, l) = (j * p.hueStep, l) := by
  induction j with
  | zero => rw [Nat.zero_mul]; rfl
  | succ j ih =>
    rw [Nat.succ_mul] at hj ⊢
    rw [Function.iterate_succ_apply', ih (by omega), advancePair_of_lt hj]

/-- A sweep wraps the hue to 0 and steps the level with the clamp. -/
theorem iterate_advancePair_sweep (hp : 1 ≤ p.hueStep) (l : Nat) :
    (advancePair p)^[Spec.stepsPerSweep p] (0, l) = (0, min (l + p.iteStep) p.maxLevel) := by
  obtain ⟨m, hN, hbelow, htop⟩ := stepsPerSweep_eq_succ hp
  rw [hN, Function.iterate_succ_apply', iterate_advancePair_below l m hbelow, advancePair_of_ge htop]

theorem iterate_advancePair_sweeps (hp : p.Valid) (j : Nat) :
    (advancePair p)^[j * Spec.stepsPerSweep p] (0, p.minLevel) = (0, min (p.minLevel + j * p.iteStep) p.maxLevel) := by
  have hle := hp.minLevel_le_maxLevel
  induction j with
  | zero => rw [Nat.zero_mul, Nat.zero_mul, Nat.add_zero, Nat.min_eq_left hle]; rfl
  | succ j ih =>
    have hclamp : min (min (p.minLevel + j * p.iteStep) p.maxLevel + p.iteStep) p.maxLevel =
        min (p.minLevel + (j * p.iteStep + p.iteStep)) p.maxLevel := by omega
    rw [Nat.succ_mul, Nat.add_comm, Function.iterate_add_apply, ih, iterate_advancePair_sweep hp.hueStep_pos, hclamp,
      Nat.succ_mul]

/-- The division rounded up is the least number of steps that reaches the span. -/
theorem ceil_div_le_iff {span d j : Nat} (hd : 1 ≤ d) : (span + d - 1) / d ≤ j ↔ span ≤ j * d := by
  rw [← Nat.lt_succ_iff, Nat.div_lt_iff_lt_mul hd, Nat.succ_mul]
  omega

end

/-- Settles O39: sweep by sweep, and the clamp holds when the steps reach MAX_LEVEL. -/
theorem levelRamp : Obligations.LevelRamp := by
  intro p j hp
  have hle := hp.minLevel_le_maxLevel
  refine ⟨iterate_advancePair_sweeps hp j, ?_⟩
  rw [ceil_div_le_iff hp.iteStep_pos]
  omega

end Sys2Proof.Machine

/-! The build's parameters (spec/00_scope.md R7) and the assembler's table (spec/30_encoding.md R80). -/

namespace Sys2Proof.Machine

/-- Settles O1: the ranges of the opaque constants give each bound. -/
theorem buildParametersMeetConstraints : Obligations.BuildParametersMeetConstraints where
  minLevel_pos := one_le_minLevel
  minLevel_le_maxLevel := minLevel_le_maxLevel
  maxLevel_le := maxLevel_le_255
  iteStep_pos := iteStep_bounds.1
  iteStep_le := iteStep_bounds.2
  hueStep_pos := hueStep_bounds.1
  hueStep_lt := hueStep_bounds.2
  subtickDelay_pos := one_le_subtickDelay

/-- Settles O9: each line of the table is read and encoded. -/
theorem assemblerSyntaxTable : Obligations.AssemblerSyntaxTable :=
  ⟨by decide, by decide, by decide, by decide, by decide, by decide⟩

end Sys2Proof.Machine
